-- ==== Sys2Proof/Word.lean ====
section
/-! DEFINITION. The word types of the block: what the spec adds, shifts, masks or shows to software as bits
(00_scope.md R13). -/

namespace Sys2Proof

/-- `bits(8)`: a command, parameter, pixel or received byte. -/
abbrev Byte := BitVec 8

/-- `bits(32)`: a host-port word or a host-memory address. -/
abbrev Word := BitVec 32

/-- `bits(4)`: a 4-bit on-wire colour code. -/
abbrev Nibble := BitVec 4

/-- `bits(1)`: the level of a line. -/
abbrev Level := BitVec 1

/-- The 9-bit value `{DC, B[7:0]}` of format `FRAME` (30_encoding.md R306). -/
abbrev FrameWord := BitVec 9

end Sys2Proof
end

