-- ==== Sys2Proof/Config.lean ====
section
/-! DEFINITION. The configuration record `CFG` (00_scope.md R8 to R12), the value this spec or an OPEN constant
gives each field, and the free values of the environment. -/

namespace Sys2Proof

/-- The closed colour set, in the order of 00_scope.md R11. -/
inductive Color where
  | black | white | green | blue | red | yellow | orange | clean
  deriving DecidableEq, Repr

/-- The eight colours of R11, in its order. -/
def Color.all : List Color :=
  [.black, .white, .green, .blue, .red, .yellow, .orange, .clean]

/-- A table with one entry for each colour (10_state.md R124: fixed and total). -/
structure ColorMap (α : Type) where
  black : α
  white : α
  green : α
  blue : α
  red : α
  yellow : α
  orange : α
  clean : α
  deriving DecidableEq, Repr

/-- The entry of a colour. -/
def ColorMap.get {α : Type} (m : ColorMap α) : Color → α
  | .black => m.black
  | .white => m.white
  | .green => m.green
  | .blue => m.blue
  | .red => m.red
  | .yellow => m.yellow
  | .orange => m.orange
  | .clean => m.clean

/-- The eight entries, in the order of R11. -/
def ColorMap.toList {α : Type} (m : ColorMap α) : List α :=
  [m.black, m.white, m.green, m.blue, m.red, m.yellow, m.orange, m.clean]

/-- The three places where the block runs the busy-wait handshake (00_scope.md R17, 42_busy_wait.md R443). -/
inductive WaitSite where
  | powerOn | refresh | sleep
  deriving DecidableEq, Repr

/-- One level for each wait site. -/
structure SiteMap where
  powerOn : Level
  refresh : Level
  sleep : Level
  deriving DecidableEq, Repr

/-- The level of a wait site. -/
def SiteMap.get (m : SiteMap) : WaitSite → Level
  | .powerOn => m.powerOn
  | .refresh => m.refresh
  | .sleep => m.sleep

/-- One entry of `INIT_TABLE`: a command byte and its parameter bytes (41_initialization.md R422). -/
structure InitPair where
  cmd : Byte
  params : List Byte
  deriving DecidableEq, Repr

/-- The configuration record of R9. Durations are whole microseconds (log 11). -/
structure Cfg where
  width : Nat
  height : Nat
  nibble : ColorMap Nibble
  code8 : ColorMap Byte
  initTable : List InitPair
  cmdPowerOn : Byte
  cmdFrameWrite : Byte
  cmdRefresh : Byte
  cmdDeepSleep : Byte
  cmdSleepConfirm : Byte
  sleepCheckCode : Byte
  busyActiveLevel : SiteMap
  busyTimeout : Option Nat
  tRstLowMin : Nat
  tRstHighMin : Nat
  tSetupMin : Nat
  tPollMin : Nat
  regBase : Word
  deriving DecidableEq, Repr

/-- `NPIX` (R9). -/
def Cfg.npix (c : Cfg) : Nat := c.width * c.height

/-- `NBYTES` (R9). -/
def Cfg.nbytes (c : Cfg) : Nat := c.npix / 2

/-- The constraints (a) to (g) of 00_scope.md R10; (e) holds by the type of a byte. -/
structure Cfg.Valid (c : Cfg) : Prop where
  npix_even : c.npix % 2 = 0
  nibble_injective : c.nibble.toList.Nodup
  code8_injective : c.code8.toList.Nodup
  code8_white : c.code8.white = 0xFF
  code8_black : c.code8.black = 0x00
  nibble_white : c.nibble.white = 0x1
  timeout_positive : c.busyTimeout ≠ some 0
  npix_fits : c.npix ≤ 2 ^ 32 - 1

/-! ### The OPEN fields of R9: constants of which nothing is known (log 2) -/

opaque Config.initTable : List InitPair
opaque Config.cmdPowerOn : Byte
opaque Config.cmdFrameWrite : Byte
opaque Config.cmdRefresh : Byte
opaque Config.cmdDeepSleep : Byte
opaque Config.cmdSleepConfirm : Byte
opaque Config.sleepCheckCode : Byte
opaque Config.busyActivePowerOn : Level
opaque Config.busyActiveRefresh : Level
opaque Config.busyActiveSleep : Level

/-- `BUSY_TIMEOUT` less one where it is `Some`: `some m` stands for `Some(m + 1)`, so that (f) of R10 holds. -/
opaque Config.busyTimeoutLessOne : Option Nat
opaque Config.tSetupMin : Nat
opaque Config.tPollMin : Nat
opaque Config.regBase : Word

/-- What the spec states of `CODE8` (R10(c), R10(d), R12). -/
abbrev Config.Code8Table : Type :=
  { m : ColorMap Byte // m.black = 0x00 ∧ m.white = 0xFF ∧ m.toList.Nodup }

/-- A table of that type, needed only to show Lean that the type has one: `Config.code8` is opaque, so that nothing
can be proved of `CODE8` from this table (log 3). -/
def Config.code8Witness : Config.Code8Table :=
  ⟨⟨0x00, 0xFF, 0x02, 0x03, 0x04, 0x05, 0x06, 0x07⟩, by decide⟩

/-- `CODE8`, of which nothing is known but what `Code8Table` says (log 3). -/
opaque Config.code8 [Inhabited Config.Code8Table] : Config.Code8Table

/-- The configuration a block is constructed with: the values of R9, and a constant without a value for each OPEN
field. A claim that holds for every state holds for every configuration, since the record stands in State (log 1). -/
def Config.cfg : Cfg where
  width := 600
  height := 448
  nibble := ⟨0x0, 0x1, 0x2, 0x3, 0x4, 0x5, 0x6, 0x7⟩
  code8 := (@Config.code8 ⟨Config.code8Witness⟩).val
  initTable := Config.initTable
  cmdPowerOn := Config.cmdPowerOn
  cmdFrameWrite := Config.cmdFrameWrite
  cmdRefresh := Config.cmdRefresh
  cmdDeepSleep := Config.cmdDeepSleep
  cmdSleepConfirm := Config.cmdSleepConfirm
  sleepCheckCode := Config.sleepCheckCode
  busyActiveLevel := ⟨Config.busyActivePowerOn, Config.busyActiveRefresh, Config.busyActiveSleep⟩
  busyTimeout := Config.busyTimeoutLessOne.map (· + 1)
  tRstLowMin := 100000
  tRstHighMin := 100000
  tSetupMin := Config.tSetupMin
  tPollMin := Config.tPollMin
  regBase := Config.regBase

/-! ### Free values: what the environment answers once nothing more is scripted (log 4, log 6) -/

/-- The level of BUSY at the draw of this number (42_busy_wait.md R440, 10_state.md R111). -/
opaque Config.freeBusy : Nat → Level

/-- The byte received at the draw of this number (40_bus_transport.md R402). -/
opaque Config.freeRx : Nat → Byte

/-- By how much the duration drawn exceeds its minimum (40_bus_transport.md R401). -/
opaque Config.freeSlack : Nat → Nat

/-- Whether the host, and not the block, takes the turn of this number (45_request_port.md R511). -/
opaque Config.freeHostTurn : Nat → Bool

end Sys2Proof
end

