-- ==== Sys2Proof/Syntax.lean ====
section
/-! DEFINITION. The instructions of the block, one constructor for each row of spec/opcode_table.json, and their
encoded forms (30_encoding.md R300 to R306). -/

namespace Sys2Proof

/-- One constructor per row of the opcode table: the four requests, the five illegal rows of format `REQ`, and the two
frames of format `FRAME`. -/
inductive Instr where
  /-- `INIT` (41_initialization.md R421). -/
  | init
  /-- `FILL n`: `n` is the 4-bit on-wire colour code in bits 7:4 (43_pixel_transmission.md R465, R303). -/
  | fill (n : Nibble)
  /-- `DISPLAY` (43_pixel_transmission.md R466). -/
  | display
  /-- `SLEEP` (44_power_down.md R490). -/
  | sleep
  /-- Reserved `OP` 0b000 with any bits 31:3 (45_request_port.md R504). -/
  | rsvOp0 (rest : BitVec 29)
  /-- Reserved `OP` 0b101 with any bits 31:3 (R504). -/
  | rsvOp5 (rest : BitVec 29)
  /-- Reserved `OP` 0b110 with any bits 31:3 (R504). -/
  | rsvOp6 (rest : BitVec 29)
  /-- Reserved `OP` 0b111 with any bits 31:3 (R504). -/
  | rsvOp7 (rest : BitVec 29)
  /-- A legal `OP` with a nonzero reserved or unused field (R504): the four fields of R301. -/
  | illegalFields (op : BitVec 3) (rsv0 : BitVec 1) (color : Nibble) (rsv1 : BitVec 24)
  /-- `CMD b`, a command frame (40_bus_transport.md R404). -/
  | cmd (b : Byte)
  /-- `DATA b`, a data frame (40_bus_transport.md R405). -/
  | data (b : Byte)
  deriving DecidableEq, Repr

/-- The two instruction formats of R300. -/
inductive Format where
  | req | frame
  deriving DecidableEq, Repr

/-- An encoded instruction: a word of one of the two formats (R300). -/
inductive Code where
  | req (w : Word)
  | frame (w : FrameWord)
  deriving DecidableEq, Repr

end Sys2Proof
end

