-- ==== Sys2Proof/WellFormed.lean ====
section
/-! DEFINITION. Which terms of `Instr` stand for a word of their own row. Only `ILLEGAL_FIELDS` has a condition: the
fields of every other constructor are free. -/

namespace Sys2Proof

/-- `OP` is one of the four legal values (30_encoding.md R302). -/
def legalOp (op : BitVec 3) : Bool :=
  op == 1 || op == 2 || op == 3 || op == 4

/-- `RSV0` or `RSV1` is nonzero, or `COLOR` is nonzero with an `OP` other than `FILL` (30_encoding.md R301, R304). -/
def badField (op : BitVec 3) (rsv0 : BitVec 1) (color : Nibble) (rsv1 : BitVec 24) : Bool :=
  rsv0 != 0 || rsv1 != 0 || (color != 0 && op != 2)

/-- A term that some encoded word decodes to: the condition of the row `ILLEGAL_FIELDS` of the opcode table. -/
def Instr.wellFormed : Instr → Bool
  | .init => true
  | .fill _ => true
  | .display => true
  | .sleep => true
  | .rsvOp0 _ => true
  | .rsvOp5 _ => true
  | .rsvOp6 _ => true
  | .rsvOp7 _ => true
  | .illegalFields op rsv0 color rsv1 => legalOp op && badField op rsv0 color rsv1
  | .cmd _ => true
  | .data _ => true

end Sys2Proof
end

