-- ==== Sys2Proof/Decode.lean ====
section
/-! DEFINITION. The decoder, total on every word of both formats (30_encoding.md R305, R306) and on any bytes, and
after it the encoder, written from the same tables. -/

namespace Sys2Proof

/-- The request decoder of R305. Where R305 says `ILLEGAL`, the row of the opcode table that the word falls under. -/
def decodeReq (w : Word) : Instr :=
  if w = 0x00000001 then .init
  else if w &&& 0xFFFFFF0F = 0x00000002 then .fill (w.extractLsb' 4 4)
  else if w = 0x00000003 then .display
  else if w = 0x00000004 then .sleep
  else if w.extractLsb' 0 3 = 0 then .rsvOp0 (w.extractLsb' 3 29)
  else if w.extractLsb' 0 3 = 5 then .rsvOp5 (w.extractLsb' 3 29)
  else if w.extractLsb' 0 3 = 6 then .rsvOp6 (w.extractLsb' 3 29)
  else if w.extractLsb' 0 3 = 7 then .rsvOp7 (w.extractLsb' 3 29)
  else .illegalFields (w.extractLsb' 0 3) (w.extractLsb' 3 1) (w.extractLsb' 4 4) (w.extractLsb' 8 24)

/-- The frame decoder of R306: bit 8 is the level of `DC`, 0 a command and 1 a data frame. -/
def decodeFrame (w : FrameWord) : Instr :=
  if w.extractLsb' 8 1 = 0 then .cmd (w.extractLsb' 0 8) else .data (w.extractLsb' 0 8)

/-- Decoding an encoded instruction. -/
def decode : Code → Instr
  | .req w => decodeReq w
  | .frame w => decodeFrame w

/-- Why bytes are no instruction. -/
inductive DecodeError where
  /-- The bytes end before the word does. -/
  | truncated
  /-- A bit above bit 8 of the two bytes that hold a frame is set. -/
  | frameHighBits
  deriving DecidableEq, Repr

/-- Four bytes as a word, the first in bits 7:0 (20_memory.md R204). -/
def bytesWord (b0 b1 b2 b3 : Byte) : Word :=
  b3.setWidth 32 <<< 24 ||| b2.setWidth 32 <<< 16 ||| b1.setWidth 32 <<< 8 ||| b0.setWidth 32

/-- `{DC, B[7:0]}` (R306). -/
def frameWord (dc : Level) (b : Byte) : FrameWord :=
  dc.setWidth 9 <<< 8 ||| b.setWidth 9

/-- The instruction at the front of a list of bytes, and the bytes after it. A request word is four bytes, least
significant first (20_memory.md R204). A frame is laid out in two bytes in the same order, the seven bits above bit 8
zero (log 15). -/
def decodeBytes (f : Format) (bs : List Byte) : Except DecodeError (Instr × List Byte) :=
  match f, bs with
  | .req, b0 :: b1 :: b2 :: b3 :: rest => .ok (decodeReq (bytesWord b0 b1 b2 b3), rest)
  | .frame, b0 :: b1 :: rest =>
    if b1.extractLsb' 1 7 = 0 then .ok (decodeFrame (frameWord (b1.extractLsb' 0 1) b0), rest)
    else .error .frameHighBits
  | _, _ => .error .truncated

/-- The number of bytes a word of a format takes. -/
def Format.bytes : Format → Nat
  | .req => 4
  | .frame => 2

/-- The format of an opcode-table row whose bits fill `nbits`. The table numbers both formats from bit 0, and only the
number of bits tells them apart: a frame has 9 bits, so two bytes; a request row has up to 32 (log 15). -/
def tableFormat (nbits : Nat) : Format :=
  if 8 < nbits ∧ nbits ≤ 16 then .frame else .req

/-- The bytes of a word in the order of R204: `n` bytes of `w`, least significant first. -/
def layOut : Nat → Nat → List Byte
  | 0, _ => []
  | n + 1, w => BitVec.ofNat 8 w :: layOut n (w / 256)

/-- The instruction the decoder reads from a word of the opcode table: `nbits` bits, the bits above them zero. -/
def decodeTableWord (nbits w : Nat) : Option Instr :=
  match decodeBytes (tableFormat nbits) (layOut (tableFormat nbits).bytes (w % 2 ^ nbits)) with
  | .ok (i, _) => some i
  | .error _ => none

/-! ### The encoder -/

/-- The fields of R301 put together: `RSV1` in 31:8, `COLOR` in 7:4, `RSV0` in 3, `OP` in 2:0. -/
def reqWord (op : BitVec 3) (rsv0 : BitVec 1) (color : Nibble) (rsv1 : BitVec 24) : Word :=
  rsv1.setWidth 32 <<< 8 ||| color.setWidth 32 <<< 4 ||| rsv0.setWidth 32 <<< 3 ||| op.setWidth 32

/-- A word with a reserved `OP` in bits 2:0 and any bits 31:3 (R302, R504). -/
def rsvWord (op : BitVec 3) (rest : BitVec 29) : Word :=
  rest.setWidth 32 <<< 3 ||| op.setWidth 32

/-- A command frame (R306, R404). -/
def cmdWord (b : Byte) : FrameWord := frameWord 0 b

/-- A data frame (R306, R405). -/
def dataWord (b : Byte) : FrameWord := frameWord 1 b

/-- The word of an instruction, field by field from R301, R302 and R306. -/
def encode : Instr → Code
  | .init => .req (reqWord 0b001 0 0 0)
  | .fill n => .req (reqWord 0b010 0 n 0)
  | .display => .req (reqWord 0b011 0 0 0)
  | .sleep => .req (reqWord 0b100 0 0 0)
  | .rsvOp0 rest => .req (rsvWord 0b000 rest)
  | .rsvOp5 rest => .req (rsvWord 0b101 rest)
  | .rsvOp6 rest => .req (rsvWord 0b110 rest)
  | .rsvOp7 rest => .req (rsvWord 0b111 rest)
  | .illegalFields op rsv0 color rsv1 => .req (reqWord op rsv0 color rsv1)
  | .cmd b => .frame (cmdWord b)
  | .data b => .frame (dataWord b)

end Sys2Proof
end

