-- ==== Sys2Proof/Machine/State.lean ====
section
/-! DEFINITION. The state of the block (10_state.md R100), with what the model adds for the configuration, the
environment and the host, as plain data; the reasons a step can stop; the state after reset (70_reset_and_hazards.md
R700). -/

namespace Sys2Proof.Machine

/-- `PanelState` (R101). -/
inductive PanelState where
  | uninitialized | awake | refreshing | idle | asleep
  deriving DecidableEq, Repr

/-- The codes of `RESULT` (R110). Code 7 is never held. -/
inductive Result where
  | none | ok | errSequence | errLength | errColor | errTimeout | errIllegal
  deriving DecidableEq, Repr

/-- The four request kinds of R120. -/
inductive Request where
  | init | fill | display | sleep
  deriving DecidableEq, Repr

/-- The five primitives of a frame, each named for the one that comes next (40_bus_transport.md R403). -/
inductive FramePhase where
  /-- `SetLine(CS_N, 0)` comes next. -/
  | select
  /-- `SetLine(DC, dc)` comes next. -/
  | setDc
  /-- `Wait(SETUP, T_SETUP_MIN)` comes next. -/
  | setup
  /-- `Xfer(b)` comes next. -/
  | exchange
  /-- `SetLine(CS_N, 1)` comes next. -/
  | deselect
  deriving DecidableEq, Repr

/-- The statements of `FILL` and `DISPLAY` that send a frame (43_pixel_transmission.md R465, R466). -/
inductive PixelCall where
  | frameWrite | pixel | refresh
  deriving DecidableEq, Repr

/-- The statements of `SLEEP` that send a frame (44_power_down.md R490). -/
inductive SleepCall where
  | deepSleep | confirm | checkCode
  deriving DecidableEq, Repr

/-- The statement of a request's pseudocode whose frame is being sent. -/
inductive FrameCall where
  /-- Frame `j`, counted from 0, of the frames `INIT` sends (41_initialization.md R421). -/
  | init (j : Nat)
  | fill (c : PixelCall)
  | display (c : PixelCall)
  | sleep (c : SleepCall)
  deriving DecidableEq, Repr

/-- The next primitive of `BUSY_WAIT` (42_busy_wait.md R441). -/
inductive WaitPoint where
  /-- `SampleBusy()` comes next. -/
  | sample
  /-- `Wait(POLL, T_POLL_MIN)` comes next. -/
  | hold
  deriving DecidableEq, Repr

/-- The primitives of `HARD_RESET` after the first, which the dispatch step runs (41_initialization.md R420). -/
inductive ResetPoint where
  /-- `Wait(RST_LOW, T_RST_LOW_MIN)` comes next. -/
  | holdLow
  /-- `SetLine(RST_N, 1)` comes next. -/
  | driveHigh
  /-- `Wait(RST_HIGH, T_RST_HIGH_MIN)` comes next. -/
  | holdHigh
  deriving DecidableEq, Repr

/-- The `MemRead` points of `DISPLAY` (43_pixel_transmission.md R464, R466). The byte index is in `K`. -/
inductive ReadPoint where
  /-- `VALIDATE` reads byte `K` next. -/
  | validate
  /-- Transmission reads byte `2K` next. -/
  | first
  /-- Transmission reads byte `2K + 1` next; `b0` is byte `2K`, as the pseudocode's variable. -/
  | second (b0 : Byte)
  deriving DecidableEq, Repr

/-- The position in a request's pseudocode: the next primitive to run (R120). -/
inductive Point where
  /-- The request is accepted and not yet dispatched (45_request_port.md R500); `none` is `ILLEGAL`. -/
  | dispatch (r : Option Request)
  /-- Inside a frame, which puts the word `w` on the pins. -/
  | frame (c : FrameCall) (w : FrameWord) (ph : FramePhase)
  /-- Inside `INIT`'s `HARD_RESET`. -/
  | hardReset (p : ResetPoint)
  /-- Inside the busy-wait of a request. -/
  | wait (r : Request) (p : WaitPoint)
  /-- Before a `MemRead` of `DISPLAY`. -/
  | read (p : ReadPoint)
  /-- `Finish(OK)` or `raise E` comes next (45_request_port.md R506, 60_exceptions.md R610). -/
  | exit (r : Request) (code : Result)
  deriving DecidableEq, Repr

/-- `SEQ` (R120). -/
inductive Seq where
  | ready
  | run (p : Point)
  deriving DecidableEq, Repr

/-- The output lines (R130). -/
inductive Line where
  | csN | dc | rstN
  deriving DecidableEq, Repr

/-- The kinds of delay (R141). -/
inductive DelayKind where
  | rstLow | rstHigh | setup | poll
  deriving DecidableEq, Repr

/-- The events of `TRACE` (R141). A duration is in microseconds (log 11). -/
inductive Event where
  | line (l : Line) (v : Level)
  | delay (k : DelayKind) (t : Nat)
  | xfer (b r : Byte)
  | poll (v : Level)
  | memRd (a : Word) (v : Byte)
  | accept (w : Word)
  | done (code : Result)
  deriving DecidableEq, Repr

/-- The levels the block drives now (R130). -/
structure Pins where
  csN : Level
  dc : Level
  rstN : Level
  deriving DecidableEq, Repr

/-- The latched request registers (R114). -/
structure Latched where
  op : BitVec 3
  color : Nibble
  base : Word
  len : Word
  deriving DecidableEq, Repr

/-- What the environment will still answer, oldest first, and how many draws it has answered (log 4). -/
structure Env where
  /-- Levels of BUSY (42_busy_wait.md R440). -/
  busy : List Level
  /-- Bytes received in exchanges (40_bus_transport.md R402). -/
  rx : List Byte
  /-- By how much each duration exceeds its minimum (40_bus_transport.md R401). -/
  slack : List Nat
  /-- The number of draws made: the index of the next free value. -/
  drawn : Nat
  deriving DecidableEq, Repr

/-- One action of the host (log 5): a register access of some width in bytes, the pseudo-instruction `WAITREADY` of
30_encoding.md R315, or a change of its own memory (20_memory.md R208). -/
inductive HostAct where
  /-- `WR`: a write of `value` at an address of the host port. -/
  | write (width : Nat) (addr : Word) (value : Word)
  /-- `RD`: a read at an address of the host port. -/
  | read (width : Nat) (addr : Word)
  /-- Read `STATUS`, again and again, until its `READY` bit is 1. -/
  | waitReady
  /-- Store a byte in host memory. -/
  | store (addr : Word) (v : Byte)
  /-- From now on host memory does not answer at this address. -/
  | withdraw (addr : Word)
  deriving DecidableEq, Repr

/-- The host: the actions it will still take, in program order (70_reset_and_hazards.md R711), and the words it has
read, oldest first. -/
structure HostAgent where
  script : List HostAct
  reads : List Word
  deriving DecidableEq, Repr

/-- The two agents of 45_request_port.md R511. -/
inductive Agent where
  | host | block
  deriving DecidableEq, Repr

/-- Whose turn comes next, as far as it is scripted, and how many turns were taken (log 6). -/
structure Sched where
  order : List Agent
  taken : Nat
  deriving DecidableEq, Repr

/-- Why the block has no further step. -/
inductive Fault where
  /-- Raised by a step of the block after `DISPLAY` recorded that transmission read a byte it does not recognise: the
  host changed the buffer (43_pixel_transmission.md R470, 60_exceptions.md R607(a)). Safe: nothing can be proved of
  such a run. -/
  | hostBufferChanged
  /-- Raised by a `MemRead` of `DISPLAY` at an address host memory does not answer: the block is stuck
  (20_memory.md R208(b), R607(c)). Safe: the run ends there in the model too. -/
  | memReadUnanswered
  deriving DecidableEq, Repr

/-- Why an access or an instruction has no meaning. -/
inductive Refusal where
  /-- An instruction of the table without a meaning yet, by its mnemonic. Raised by an arm of `exec`, of which none
  does. Safe: the run ends. -/
  | notModelled (mnemonic : String)
  /-- Recorded by a host access to the register window that is not 32 bits wide or not at a multiple of 4, and answered
  by every step from then on (20_memory.md R202, 60_exceptions.md R607(b), log 9). Safe: nothing can be proved of what
  follows. -/
  | registerAccess
  deriving DecidableEq, Repr

/-- The state. The first group is the record of R100; the second is the configuration (R8) and what stands outside the
block; the last two are the model's record of a fault and of a refusal, which nothing clears (60_exceptions.md R607). -/
structure State where
  pstate : PanelState
  seq : Seq
  reqShadow : Word
  bufBase : Word
  bufLen : Word
  result : Result
  overrun : Bool
  latched : Latched
  k : Nat
  polls : Nat
  pins : Pins
  trace : List Event
  cfg : Cfg
  mem : List Host.Cell
  env : Env
  host : HostAgent
  sched : Sched
  fault : Option Fault
  refusal : Option Refusal
  deriving DecidableEq, Repr

/-- The state after the construction reset (R700); the fields outside the record of R100 hold no script and no
memory (log 4 to 8). -/
def State.reset : State where
  pstate := .uninitialized
  seq := .ready
  reqShadow := 0x00000000
  bufBase := 0x00000000
  bufLen := 0x00000000
  result := .none
  overrun := false
  latched := ⟨0, 0, 0, 0⟩
  k := 0
  polls := 0
  pins := ⟨1, 0, 1⟩
  trace := []
  cfg := Config.cfg
  mem := []
  env := ⟨[], [], [], 0⟩
  host := ⟨[], []⟩
  sched := ⟨[], 0⟩
  fault := none
  refusal := none

/-! ### Named updates -/

namespace State

/-- `PSTATE <- p`. -/
def setPState (p : PanelState) (s : State) : State := { s with pstate := p }
/-- `SEQ <- q`. -/
def setSeq (q : Seq) (s : State) : State := { s with seq := q }
/-- `REQ_SHADOW <- w`. -/
def setReqShadow (w : Word) (s : State) : State := { s with reqShadow := w }
/-- `BUF_BASE <- w`. -/
def setBufBase (w : Word) (s : State) : State := { s with bufBase := w }
/-- `BUF_LEN <- w`. -/
def setBufLen (w : Word) (s : State) : State := { s with bufLen := w }
/-- `RESULT <- r`. -/
def setResult (r : Result) (s : State) : State := { s with result := r }
/-- `OVERRUN <- b`. -/
def setOverrun (b : Bool) (s : State) : State := { s with overrun := b }
/-- `L_OP`, `L_COLOR`, `L_BASE` and `L_LEN`. -/
def setLatched (l : Latched) (s : State) : State := { s with latched := l }
/-- `K <- k`. -/
def setK (k : Nat) (s : State) : State := { s with k := k }
/-- `POLLS <- n`. -/
def setPolls (n : Nat) (s : State) : State := { s with polls := n }
/-- The three lines. -/
def setPins (p : Pins) (s : State) : State := { s with pins := p }
/-- `Emit(e)`: append an event to `TRACE` (00_scope.md R15). -/
def emit (e : Event) (s : State) : State := { s with trace := s.trace ++ [e] }
/-- Host memory. -/
def setMem (m : List Host.Cell) (s : State) : State := { s with mem := m }
/-- The environment. -/
def setEnv (e : Env) (s : State) : State := { s with env := e }
/-- The host agent. -/
def setHost (h : HostAgent) (s : State) : State := { s with host := h }
/-- The schedule. -/
def setSched (c : Sched) (s : State) : State := { s with sched := c }
/-- The recorded fault. -/
def setFault (f : Option Fault) (s : State) : State := { s with fault := f }
/-- The recorded refusal. -/
def setRefusal (r : Option Refusal) (s : State) : State := { s with refusal := r }

end State

end Sys2Proof.Machine
end

