-- ==== Sys2Proof/Machine/Ops.lean ====
section
/-! DEFINITION. The named operations over host memory, the environment's draws, the pins and the registers: the
primitives of 00_scope.md R15, the error exit and the normal end of a request. -/

namespace Sys2Proof.Machine

/-! ### Host memory (20_memory.md R205 to R208) -/

/-- The canonical form: addresses strictly rising, each of 32 bits. An unlisted address reads as nothing, so no listed
cell can equal what an unlisted address reads as (log 7). -/
abbrev Memory.wf (m : List Host.Cell) : Prop :=
  m.Pairwise (fun x y => x.1 < y.1) ∧ ∀ x ∈ m, x.1 < 2 ^ 32

/-- What host memory answers at an address: nothing where no cell is listed (R208(b)). -/
def Memory.read : List Host.Cell → Nat → Option Byte
  | [], _ => none
  | (b, v) :: rest, a => if b = a then some v else Memory.read rest a

/-- Store a byte, keeping the addresses rising. -/
def Memory.write : List Host.Cell → Nat → Byte → List Host.Cell
  | [], a, v => [(a, v)]
  | (b, u) :: rest, a, v =>
    if a < b then (a, v) :: (b, u) :: rest
    else if a = b then (a, v) :: rest
    else (b, u) :: Memory.write rest a v

/-- Take an address out of the list. -/
def Memory.erase (m : List Host.Cell) (a : Nat) : List Host.Cell :=
  m.filter (fun x => x.1 ≠ a)

/-! ### Draws from the environment (log 4) -/

/-- The next level of BUSY: the next scripted one, else the free value of this draw (R440, R111). -/
def Env.nextBusy (e : Env) : Level := e.busy.headD (Config.freeBusy e.drawn)

/-- The environment after a level of BUSY was drawn. -/
def Env.takeBusy (e : Env) : Env := { e with busy := e.busy.tail, drawn := e.drawn + 1 }

/-- The next received byte (R402). -/
def Env.nextRx (e : Env) : Byte := e.rx.headD (Config.freeRx e.drawn)

/-- The environment after a received byte was drawn. -/
def Env.takeRx (e : Env) : Env := { e with rx := e.rx.tail, drawn := e.drawn + 1 }

/-- By how much the next duration exceeds its minimum (R401). -/
def Env.nextSlack (e : Env) : Nat := e.slack.headD (Config.freeSlack e.drawn)

/-- The environment after a duration was drawn. -/
def Env.takeSlack (e : Env) : Env := { e with slack := e.slack.tail, drawn := e.drawn + 1 }

/-! ### Turns (45_request_port.md R511, log 6) -/

/-- The agent that moves next: the next scripted one, else the free choice of this turn. -/
def State.turn (s : State) : Agent :=
  s.sched.order.headD (if Config.freeHostTurn s.sched.taken then .host else .block)

/-- The state after that choice was made. -/
def State.takeTurn (s : State) : State :=
  s.setSched ⟨s.sched.order.tail, s.sched.taken + 1⟩

/-! ### The primitives of 00_scope.md R15 -/

/-- The lines with one of them at a new level. -/
def Pins.set (p : Pins) (l : Line) (v : Level) : Pins :=
  match l with
  | .csN => { p with csN := v }
  | .dc => { p with dc := v }
  | .rstN => { p with rstN := v }

/-- `SetLine(L, v)` (40_bus_transport.md R400): the event is emitted whatever level the line had. -/
def setLine (l : Line) (v : Level) (s : State) : State :=
  (s.setPins (s.pins.set l v)).emit (.line l v)

/-- `Wait(kind, tmin)` (R401): the duration is the environment's, at or above the minimum. -/
def waitFor (k : DelayKind) (tmin : Nat) (s : State) : State :=
  (s.setEnv s.env.takeSlack).emit (.delay k (tmin + s.env.nextSlack))

/-- `Xfer(b)` (R402): the received byte goes into the event and nowhere else. -/
def xfer (b : Byte) (s : State) : State :=
  (s.setEnv s.env.takeRx).emit (.xfer b s.env.nextRx)

/-- `SampleBusy()` (42_busy_wait.md R440): the state after it. The level read is `s.env.nextBusy`. -/
def sampleBusy (s : State) : State :=
  (s.setEnv s.env.takeBusy).emit (.poll s.env.nextBusy)

/-- `MemRead(a, 1)` (20_memory.md R205): the byte and the state after the read, or nothing where host memory does not
answer (R208(b)). -/
def memRead (a : Word) (s : State) : Option (Byte × State) :=
  (Memory.read s.mem a.toNat).map fun v => (v, s.emit (.memRd a v))

/-- Go on at a point of the pseudocode. -/
def goto (p : Point) (s : State) : State := s.setSeq (.run p)

/-! ### How a request ends -/

/-- `raise E` (60_exceptions.md R610): the one error exit. It saves nothing, writes no line and no `PSTATE`, and there
is no handler to go to and none to return from (R611). -/
def raise (e : Result) (s : State) : State :=
  ((s.setResult e).setSeq .ready).emit (.done e)

/-- `Finish(code)` (45_request_port.md R506): the normal end. It writes `RESULT` for every request, `SLEEP` included
(log 29). -/
def finish (code : Result) (s : State) : State :=
  ((s.setResult code).setSeq .ready).emit (.done code)

/-- The step at a request's exit point: `Finish(OK)` or `raise E`. -/
def exitStep (code : Result) (s : State) : State :=
  match code with
  | .ok => finish .ok s
  | e => raise e s

end Sys2Proof.Machine
end

