-- ==== Sys2Proof/Machine/Operands.lean ====
section
/-! DEFINITION. Operands: the pixel encoder (43_pixel_transmission.md R460 to R463), the frame-buffer addresses
(20_memory.md R206), the request word's fields (30_encoding.md R301, 45_request_port.md R505) and the frames `INIT`
sends (41_initialization.md R421, R422). -/

namespace Sys2Proof.Machine

/-- `ENCODE8(b)` (R460): the on-wire code of the colour whose 8-bit code is `b`, if there is one. -/
def encode8 (c : Cfg) (b : Byte) : Option Nibble :=
  (Color.all.find? (fun x => c.code8.get x == b)).map c.nibble.get

/-- `n` is `NIBBLE(c)` for some colour `c` (30_encoding.md R303). -/
def recognisedNibble (c : Cfg) (n : Nibble) : Bool :=
  Color.all.any (fun x => c.nibble.get x == n)

/-- `PACK(hi, lo)` (R462): the first pixel in bits 7:4, the second in bits 3:0. -/
def pack (hi lo : Nibble) : Byte := hi.setWidth 8 <<< 4 ||| lo.setWidth 8

/-- `FILLBYTE(n)` (R463). -/
def fillByte (n : Nibble) : Byte := pack n n

/-- The address of byte `i` of the frame buffer, `(L_BASE + i) mod 2^32` (20_memory.md R206). -/
def bufferAddr (base : Word) (i : Nat) : Word := base + BitVec.ofNat 32 i

/-- The latched operands of an accepted word (45_request_port.md R505). -/
def latchedOf (w bufBase bufLen : Word) : Latched where
  op := w.extractLsb' 0 3
  color := w.extractLsb' 4 4
  base := bufBase
  len := bufLen

/-- The request kind of an instruction: `none` for every row that is not one of the four requests (30_encoding.md
R305). -/
def requestOf : Instr → Option Request
  | .init => some .init
  | .fill _ => some .fill
  | .display => some .display
  | .sleep => some .sleep
  | .rsvOp0 _ => none
  | .rsvOp5 _ => none
  | .rsvOp6 _ => none
  | .rsvOp7 _ => none
  | .illegalFields _ _ _ _ => none
  | .cmd _ => none
  | .data _ => none

/-- The frames of `SEND_PAIR(c, ps)` (40_bus_transport.md R409): the command, then each parameter in list order. -/
def pairFrames (p : InitPair) : List FrameWord :=
  cmdWord p.cmd :: p.params.map dataWord

/-- The frames `INIT` sends: every pair of `INIT_TABLE` in order, then the power-on command (R421, R422). -/
def initFrames (c : Cfg) : List FrameWord :=
  c.initTable.flatMap pairFrames ++ [cmdWord c.cmdPowerOn]

/-- The wait site of a request (42_busy_wait.md R443). -/
def siteOf : Request → WaitSite
  | .init => .powerOn
  | .fill => .refresh
  | .display => .refresh
  | .sleep => .sleep

/-- `CFG.BUSY_TIMEOUT = Some(n)` and `polls >= n` (42_busy_wait.md R441). -/
def timedOut (c : Cfg) (polls : Nat) : Bool :=
  match c.busyTimeout with
  | none => false
  | some n => n ≤ polls

end Sys2Proof.Machine
end

