-- ==== Sys2Proof/Machine/Flags.lean ====
section
/-! DEFINITION. The status words the host reads (10_state.md R101, R109 to R113) and the state check of dispatch
(45_request_port.md R503). The block has no arithmetic flags. -/

namespace Sys2Proof.Machine

/-- The 3-bit code of `PSTATE` (R101). -/
def PanelState.code : PanelState → BitVec 3
  | .uninitialized => 0
  | .awake => 1
  | .refreshing => 2
  | .idle => 3
  | .asleep => 4

/-- The 3-bit code of `RESULT` (R110). -/
def Result.code : Result → BitVec 3
  | .none => 0
  | .ok => 1
  | .errSequence => 2
  | .errLength => 3
  | .errColor => 4
  | .errTimeout => 5
  | .errIllegal => 6

/-- `READY`: 1 exactly when `SEQ = Ready` (R112). -/
def State.ready (s : State) : Bool := s.seq == .ready

/-- A flag as one bit. -/
def bit (b : Bool) : BitVec 1 := if b then 1 else 0

/-- `STATUS` (R109): `STATE` 2:0, 0 at 3, `RESULT` 6:4, `READY` 7, `OVERRUN` 8, 0 above. -/
def statusWord (s : State) : Word :=
  (bit s.overrun).setWidth 32 <<< 8 ||| (bit s.ready).setWidth 32 <<< 7 ||| s.result.code.setWidth 32 <<< 4 |||
    s.pstate.code.setWidth 32

/-- `LINES` (R111): `CS_N`, `DC`, `RST_N` and the level of `BUSY` at the read, in bits 0 to 3. -/
def linesWord (p : Pins) (busy : Level) : Word :=
  busy.setWidth 32 <<< 3 ||| p.rstN.setWidth 32 <<< 2 ||| p.dc.setWidth 32 <<< 1 ||| p.csN.setWidth 32

/-- `PERMITTED(r)`, the states a request may run in: the table of R503. -/
def permitted (r : Request) (p : PanelState) : Bool :=
  match r, p with
  | .init, .uninitialized => true
  | .init, .awake => true
  | .init, .refreshing => false
  | .init, .idle => true
  | .init, .asleep => true
  | _, .uninitialized => false
  | _, .awake => true
  | _, .refreshing => false
  | _, .idle => true
  | _, .asleep => false

end Sys2Proof.Machine
end

