-- ==== Sys2Proof/Machine/Framer.lean ====
section
/-! DEFINITION. The framer (40_bus_transport.md R403): the five primitives of one frame. -/

namespace Sys2Proof.Machine

/-- The primitive of `FRAME(dc, b)` that comes next, for the frame word `{dc, b}` (R403). -/
def framePrimitive (w : FrameWord) (ph : FramePhase) (s : State) : State :=
  match ph with
  | .select => setLine .csN 0 s
  | .setDc => setLine .dc (w.extractLsb' 8 1) s
  | .setup => waitFor .setup s.cfg.tSetupMin s
  | .exchange => xfer (w.extractLsb' 0 8) s
  | .deselect => setLine .csN 1 s

/-- The primitive after this one; nothing after the last. -/
def nextPhase : FramePhase → Option FramePhase
  | .select => some .setDc
  | .setDc => some .setup
  | .setup => some .exchange
  | .exchange => some .deselect
  | .deselect => none

/-- One step inside a frame: its next primitive, and after the last one the pure computation of the request that sends
the frame, up to that request's next primitive (`after`, R121). -/
def frameStep (after : State → State) (c : FrameCall) (w : FrameWord) (ph : FramePhase) (s : State) : State :=
  match nextPhase ph with
  | some ph' => goto (.frame c w ph') (framePrimitive w ph s)
  | none => after (framePrimitive w ph s)

/-- Go on at a frame whose first primitive comes next. -/
def startFrame (c : FrameCall) (w : FrameWord) (s : State) : State := goto (.frame c w .select) s

/-- Run the first primitive of a frame in this step. -/
def openFrame (c : FrameCall) (w : FrameWord) (s : State) : State :=
  goto (.frame c w .setDc) (framePrimitive w .select s)

end Sys2Proof.Machine
end

