-- ==== Sys2Proof/Machine/BusyWait.lean ====
section
/-! DEFINITION. The busy-wait synchroniser (42_busy_wait.md R440 to R447) and the state check of dispatch
(45_request_port.md R502). -/

namespace Sys2Proof.Machine

/-- `POLLS <- 0`, and the first sample comes next: nothing stands between (R441, R444). -/
def startWait (r : Request) (s : State) : State := goto (.wait r .sample) (s.setPolls 0)

/-- One step of `BUSY_WAIT` (R441). `after` is the pure computation of the request after a not-busy sample. On the
sample that times out, `PSTATE <- Uninitialized` takes effect with the sample and the raise is the next step (decision
D31). With `BUSY_TIMEOUT = None` nothing bounds the number of steps (R442). -/
def waitStep (after : State → State) (r : Request) (p : WaitPoint) (s : State) : State :=
  match p with
  | .sample =>
    if s.env.nextBusy ≠ s.cfg.busyActiveLevel.get (siteOf r) then after (sampleBusy s)
    else if timedOut s.cfg (s.polls + 1) then
      goto (.exit r .errTimeout) (((sampleBusy s).setPolls (s.polls + 1)).setPState .uninitialized)
    else goto (.wait r .hold) ((sampleBusy s).setPolls (s.polls + 1))
  | .hold => goto (.wait r .sample) (waitFor .poll s.cfg.tPollMin s)

/-- The state check of dispatch (R502, R503): `ERR_SEQUENCE`, or the request's own first step. -/
def checkState (r : Request) (body : State → Host.Outcome State Fault Refusal) (s : State) :
    Host.Outcome State Fault Refusal :=
  if permitted r s.pstate then body s else .next (raise .errSequence s)

end Sys2Proof.Machine
end

