-- ==== Sys2Proof/Machine/Init.lean ====
section
/-! DEFINITION. `INIT` (41_initialization.md R420 to R426). -/

namespace Sys2Proof.Machine

/-- Dispatch of `INIT` in a permitted state: `PSTATE <- Uninitialized` and the first primitive of `HARD_RESET`
(R420, R421, 90_conflicts.md C10). -/
def initFirst (s : State) : State :=
  goto (.hardReset .holdLow) (setLine .rstN 0 (s.setPState .uninitialized))

/-- Frame `j` of `INIT` comes next, or after the last frame, which is the power-on command, the busy-wait (R421,
R423). -/
def initSend (j : Nat) (s : State) : State :=
  match (initFrames s.cfg)[j]? with
  | some w => startFrame (.init j) w s
  | none => startWait .init s

/-- The rest of `HARD_RESET` (R420). No busy-wait follows it: the first frame comes next (R426). -/
def hardResetStep (p : ResetPoint) (s : State) : State :=
  match p with
  | .holdLow => goto (.hardReset .driveHigh) (waitFor .rstLow s.cfg.tRstLowMin s)
  | .driveHigh => goto (.hardReset .holdHigh) (setLine .rstN 1 s)
  | .holdHigh => initSend 0 (waitFor .rstHigh s.cfg.tRstHighMin s)

/-- After frame `j` of `INIT`. -/
def afterInitFrame (j : Nat) (s : State) : State := initSend (j + 1) s

/-- After the power-on wait: `PSTATE <- Awake`, and `Finish(OK)` comes next (R421). -/
def afterInitWait (s : State) : State := goto (.exit .init .ok) (s.setPState .awake)

/-- `INIT`: the primitive at `INIT`'s own point of `SEQ`; at any other point, dispatch (log 14). Inside one of its
frames the instruction that runs is the frame's `CMD` or `DATA`. -/
def execInit (s : State) : Host.Outcome State Fault Refusal :=
  match s.seq with
  | .run (.hardReset p) => .next (hardResetStep p s)
  | .run (.wait .init p) => .next (waitStep afterInitWait .init p s)
  | .run (.exit .init code) => .next (exitStep code s)
  | _ => checkState .init (fun t => .next (initFirst t)) s

end Sys2Proof.Machine
end

