-- ==== Sys2Proof/Machine/Pixel.lean ====
section
/-! DEFINITION. `FILL` and `DISPLAY` (43_pixel_transmission.md R464 to R470). -/

namespace Sys2Proof.Machine

/-- After the refresh frame: `PSTATE <- Refreshing` takes effect with the frame's last primitive (decision D31), and
the first sample comes next (R465, R466). -/
def afterRefreshFrame (r : Request) (s : State) : State := startWait r (s.setPState .refreshing)

/-- After the refresh wait: `PSTATE <- Idle`, and `Finish(OK)` comes next. -/
def afterRefreshWait (r : Request) (s : State) : State := goto (.exit r .ok) (s.setPState .idle)

/-! ### `FILL` -/

/-- The test of the loop `for K in 0 .. NBYTES-1`: the next data frame, or the refresh frame (R465). -/
def fillSend (s : State) : State :=
  if s.k < s.cfg.nbytes then startFrame (.fill .pixel) (dataWord (fillByte s.latched.color)) s
  else startFrame (.fill .refresh) (cmdWord s.cfg.cmdRefresh) s

/-- After a frame of `FILL`. -/
def afterFillFrame (c : PixelCall) (s : State) : State :=
  match c with
  | .frameWrite => fillSend (s.setK 0)
  | .pixel => fillSend (s.setK (s.k + 1))
  | .refresh => afterRefreshFrame .fill s

/-- `FILL` in a permitted state: the colour check, then the first primitive of the frame-write frame (R465). -/
def fillFirst (s : State) : State :=
  if recognisedNibble s.cfg s.latched.color then openFrame (.fill .frameWrite) (cmdWord s.cfg.cmdFrameWrite) s
  else raise .errColor s

/-- `FILL n`: the primitive at `FILL`'s own point of `SEQ`; at any other point, dispatch (log 14). The operand is read
from `L_COLOR`, where acceptance latched the word's bits 7:4 (`n <- L_COLOR`, R465, R505; log 20). -/
def execFill (_n : Nibble) (s : State) : Host.Outcome State Fault Refusal :=
  match s.seq with
  | .run (.wait .fill p) => .next (waitStep (afterRefreshWait .fill) .fill p s)
  | .run (.exit .fill code) => .next (exitStep code s)
  | _ => checkState .fill (fun t => .next (fillFirst t)) s

/-! ### `DISPLAY` -/

/-- The test of `VALIDATE`'s loop: byte `K` is read next, or the frame-write frame comes next (R464, R466). -/
def validateNext (s : State) : State :=
  if s.k < s.cfg.npix then goto (.read .validate) s
  else startFrame (.display .frameWrite) (cmdWord s.cfg.cmdFrameWrite) s

/-- One read of `VALIDATE` (R464): an unrecognised byte ends the request before any frame. -/
def validateRead (s : State) : Host.Outcome State Fault Refusal :=
  match memRead (bufferAddr s.latched.base s.k) s with
  | none => .fault .memReadUnanswered
  | some (b, t) =>
    match encode8 s.cfg b with
    | none => .next (goto (.exit .display .errColor) t)
    | some _ => .next (validateNext (t.setK (s.k + 1)))

/-- The test of the loop `for K in 0 .. NBYTES-1`: byte `2K` is read next, or the refresh frame comes next (R466). -/
def displaySend (s : State) : State :=
  if s.k < s.cfg.nbytes then goto (.read .first) s
  else startFrame (.display .refresh) (cmdWord s.cfg.cmdRefresh) s

/-- The read of byte `2K` (R466). -/
def firstRead (s : State) : Host.Outcome State Fault Refusal :=
  match memRead (bufferAddr s.latched.base (2 * s.k)) s with
  | none => .fault .memReadUnanswered
  | some (b, t) => .next (goto (.read (.second b)) t)

/-- The read of byte `2K + 1` (R466): the packed byte's frame comes next. Where either byte is unrecognised the fault
`HOST_BUFFER_CHANGED` is recorded, and the block has no further step (R470, log 8). -/
def secondRead (b0 : Byte) (s : State) : Host.Outcome State Fault Refusal :=
  match memRead (bufferAddr s.latched.base (2 * s.k + 1)) s with
  | none => .fault .memReadUnanswered
  | some (b1, t) =>
    match encode8 s.cfg b0, encode8 s.cfg b1 with
    | some hi, some lo => .next (startFrame (.display .pixel) (dataWord (pack hi lo)) t)
    | _, _ => .next (t.setFault (some .hostBufferChanged))

/-- The read at a `MemRead` point of `DISPLAY`. -/
def readStep (p : ReadPoint) (s : State) : Host.Outcome State Fault Refusal :=
  match p with
  | .validate => validateRead s
  | .first => firstRead s
  | .second b0 => secondRead b0 s

/-- After a frame of `DISPLAY`. -/
def afterDisplayFrame (c : PixelCall) (s : State) : State :=
  match c with
  | .frameWrite => displaySend (s.setK 0)
  | .pixel => displaySend (s.setK (s.k + 1))
  | .refresh => afterRefreshFrame .display s

/-- `DISPLAY` in a permitted state: the length check, then the first primitive of `VALIDATE`, its read of byte 0
(R464). With no pixel to read it is the frame-write frame's. -/
def displayFirst (s : State) : Host.Outcome State Fault Refusal :=
  if s.latched.len.toNat ≠ s.cfg.npix then .next (raise .errLength s)
  else if 0 < s.cfg.npix then validateRead (s.setK 0)
  else .next (openFrame (.display .frameWrite) (cmdWord s.cfg.cmdFrameWrite) (s.setK 0))

/-- `DISPLAY`: the primitive at `DISPLAY`'s own point of `SEQ`; at any other point, dispatch (log 14). -/
def execDisplay (s : State) : Host.Outcome State Fault Refusal :=
  match s.seq with
  | .run (.read p) => readStep p s
  | .run (.wait .display p) => .next (waitStep (afterRefreshWait .display) .display p s)
  | .run (.exit .display code) => .next (exitStep code s)
  | _ => checkState .display displayFirst s

end Sys2Proof.Machine
end

