-- ==== Sys2Proof/Machine/PowerDown.lean ====
section
/-! DEFINITION. `SLEEP` (44_power_down.md R490 to R492). -/

namespace Sys2Proof.Machine

/-- `SLEEP` in a permitted state: the first primitive of the deep-sleep frame (R490). -/
def sleepFirst (s : State) : State := openFrame (.sleep .deepSleep) (cmdWord s.cfg.cmdDeepSleep) s

/-- After a frame of `SLEEP`: the wait after the deep-sleep frame, the check code after the confirmation, and after
the check code `PSTATE <- Asleep` with `Finish(OK)` next. No wait follows the check code (R490). -/
def afterSleepFrame (c : SleepCall) (s : State) : State :=
  match c with
  | .deepSleep => startWait .sleep s
  | .confirm => startFrame (.sleep .checkCode) (dataWord s.cfg.sleepCheckCode) s
  | .checkCode => goto (.exit .sleep .ok) (s.setPState .asleep)

/-- After the sleep wait the confirmation frame comes next; `PSTATE` is unchanged (R490, decision D14). -/
def afterSleepWait (s : State) : State := startFrame (.sleep .confirm) (cmdWord s.cfg.cmdSleepConfirm) s

/-- `SLEEP`: the primitive at `SLEEP`'s own point of `SEQ`; at any other point, dispatch (log 14). DESIGN CHOICE: its
end writes `RESULT`, as R490, R506 and 10_state.md R110 say, though 60_exceptions.md R618 calls it unchanged by `SLEEP`
(log 29). No step of `SLEEP` writes `OVERRUN`; its acceptance cleared it, as that of every word does (R500). -/
def execSleep (s : State) : Host.Outcome State Fault Refusal :=
  match s.seq with
  | .run (.wait .sleep p) => .next (waitStep afterSleepWait .sleep p s)
  | .run (.exit .sleep code) => .next (exitStep code s)
  | _ => checkState .sleep (fun t => .next (sleepFirst t)) s

end Sys2Proof.Machine
end

