-- ==== Sys2Proof/Machine/Frames.lean ====
section
/-! DEFINITION. The frame instructions `CMD` and `DATA` (40_bus_transport.md R404, R405). -/

namespace Sys2Proof.Machine

/-- What the request does once the frame it sends is closed. -/
def afterFrame (c : FrameCall) (s : State) : State :=
  match c with
  | .init j => afterInitFrame j s
  | .fill c => afterFillFrame c s
  | .display c => afterDisplayFrame c s
  | .sleep c => afterSleepFrame c s

/-- Where `SEQ` stands in the frame `w`: the statement that sends it and the primitive that comes next. Where `SEQ`
stands in no frame with this word, the frame begins; in no frame at all, it stands in the place of `INIT`'s last frame
(log 14). -/
def frameAt (w : FrameWord) (s : State) : FrameCall × FramePhase :=
  match s.seq with
  | .run (.frame c u ph) => if u = w then (c, ph) else (c, .select)
  | _ => (.init ((initFrames s.cfg).length - 1), .select)

/-- The next primitive of the frame `w`. -/
def runFrame (w : FrameWord) (s : State) : State :=
  frameStep (afterFrame (frameAt w s).1) (frameAt w s).1 w (frameAt w s).2 s

/-- `CMD b`: the next primitive of `FRAME(0, b)` (R404). -/
def execCmd (b : Byte) (s : State) : Host.Outcome State Fault Refusal := .next (runFrame (cmdWord b) s)

/-- `DATA b`: the next primitive of `FRAME(1, b)` (R405). -/
def execData (b : Byte) (s : State) : Host.Outcome State Fault Refusal := .next (runFrame (dataWord b) s)

end Sys2Proof.Machine
end

