-- ==== Sys2Proof/Machine/HostPort.lean ====
section
/-! DEFINITION. The host port: acceptance and dropping of a request (45_request_port.md R500, R501, R505), the
register window (20_memory.md R201 to R203, 45_request_port.md R508 to R510) and the host's step (R511). -/

namespace Sys2Proof.Machine

/-- Acceptance of the word `w` (R500). It clears `OVERRUN` whatever the request, `SLEEP` included: acceptance is the
same for every request word (90_conflicts.md C10). -/
def accept (w : Word) (s : State) : State :=
  ((((s.setReqShadow w).setOverrun false).setLatched (latchedOf w s.bufBase s.bufLen)).emit (.accept w)).setSeq
    (.run (.dispatch (requestOf (decodeReq w))))

/-- A write of `w` to `REQ`: accepted while `SEQ = Ready`, else dropped with `OVERRUN <- 1` as its only effect (R500,
R501). -/
def writeReq (w : Word) (s : State) : State :=
  if s.ready then accept w s else s.setOverrun true

/-- The offset of an address in the register window, if it lies in `[REG_BASE, REG_BASE + 0x1F]` (R201, log 23). An
access is judged by its first address alone: DESIGN CHOICE, one that begins just below `REG_BASE` and whose later bytes
would reach into the window is not the block's (log 28). -/
def windowOffset (c : Cfg) (a : Word) : Option Nat :=
  if c.regBase.toNat ≤ a.toNat ∧ a.toNat ≤ c.regBase.toNat + 0x1F then some (a.toNat - c.regBase.toNat) else none

/-- A 32-bit write at an offset of the window: `STATUS`, `LINES` and the reserved offsets ignore it (R203, R508,
R509). -/
def writeRegister (off : Nat) (w : Word) (s : State) : State :=
  if off = 0x00 then writeReq w s
  else if off = 0x04 then s.setBufBase w
  else if off = 0x08 then s.setBufLen w
  else s

/-- The word a 32-bit read at an offset of the window returns (R510). -/
def readRegister (off : Nat) (s : State) : Word :=
  if off = 0x04 then s.bufBase
  else if off = 0x08 then s.bufLen
  else if off = 0x0C then statusWord s
  else if off = 0x10 then linesWord s.pins s.env.nextBusy
  else 0x00000000

/-- A read of `LINES` draws the level of `BUSY`; it emits no event and changes no state of the block (R111, R510). No
other read draws anything. -/
def afterRead (off : Nat) (s : State) : State :=
  if off = 0x10 then s.setEnv s.env.takeBusy else s

/-- A width of 4 bytes and an offset that is a multiple of 4 (R202). -/
def accessOk (width off : Nat) : Bool := width == 4 && off % 4 == 0

/-- An access that R202 refuses has no step: the refusal is recorded, nothing else changes, and the access still stands
in the script (R202, 60_exceptions.md R607(b), log 9). -/
def refuseAccess (s : State) : State := s.setRefusal (some .registerAccess)

/-- The host's action is done: the next one of its script follows. -/
def popScript (s : State) : State := s.setHost ⟨s.host.script.tail, s.host.reads⟩

/-- The host has read the word `w`. -/
def logRead (w : Word) (s : State) : State := s.setHost ⟨s.host.script, s.host.reads ++ [w]⟩

/-- `WR`: outside the window the access is not the block's (R201, log 10). -/
def hostWrite (width : Nat) (a w : Word) (s : State) : Host.Outcome State Fault Refusal :=
  match windowOffset s.cfg a with
  | none => .next (popScript s)
  | some off => if accessOk width off then .next (popScript (writeRegister off w s)) else .next (refuseAccess s)

/-- `RD`: outside the window the access is not the block's, and the model gives no word (R201, log 10). -/
def hostRead (width : Nat) (a : Word) (s : State) : Host.Outcome State Fault Refusal :=
  match windowOffset s.cfg a with
  | none => .next (popScript s)
  | some off =>
    if accessOk width off then .next (popScript (logRead (readRegister off s) (afterRead off s)))
    else .next (refuseAccess s)

/-- One round of `WAITREADY` (30_encoding.md R315): read `STATUS`, and go on in the script when bit 7 is 1.
DESIGN CHOICE: it reads `STATUS` by name and not through `windowOffset`, so it does so also where a high `REG_BASE`
leaves `STATUS` at no address and `RD STATUS` returns no word (log 23, log 25). -/
def hostPoll (s : State) : State :=
  if s.ready then popScript (logRead (statusWord s) s) else logRead (statusWord s) s

/-- The host's step: the next action of its script; without one it does nothing (R511). -/
def hostStep (s : State) : Host.Outcome State Fault Refusal :=
  match s.host.script with
  | [] => .next s
  | .write width a w :: _ => hostWrite width a w s
  | .read width a :: _ => hostRead width a s
  | .waitReady :: _ => .next (hostPoll s)
  | .store a v :: _ => .next (popScript (s.setMem (Memory.write s.mem a.toNat v)))
  | .withdraw a :: _ => .next (popScript (s.setMem (Memory.erase s.mem a.toNat)))

end Sys2Proof.Machine
end

