-- ==== Sys2Proof/Machine/Fetch.lean ====
section
/-! DEFINITION. Which instruction the block's next step runs. The block fetches no instructions from memory
(20_memory.md R213): the request word is in `REQ_SHADOW` at dispatch (45_request_port.md R502), the frame word is in
`SEQ` inside a frame, and at every other point `SEQ` names the request that runs (10_state.md R120). -/

namespace Sys2Proof.Machine

/-- The instruction of a running request; the operand of `FILL` is in `L_COLOR` (43_pixel_transmission.md R465). -/
def runningInstr (r : Request) (s : State) : Instr :=
  match r with
  | .init => .init
  | .fill => .fill s.latched.color
  | .display => .display
  | .sleep => .sleep

/-- The instruction the block's next step runs; nothing while `SEQ = Ready`. DESIGN CHOICE: dispatch decodes
`REQ_SHADOW`, as the pseudocode of R502 does, though 10_state.md R106 says that it is used only to fill the `Accept`
event (log 30). -/
def fetch (s : State) : Option Instr :=
  match s.seq with
  | .ready => none
  | .run (.dispatch _) => some (decodeReq s.reqShadow)
  | .run (.frame _ w _) => some (decodeFrame w)
  | .run (.hardReset _) => some .init
  | .run (.wait r _) => some (runningInstr r s)
  | .run (.read _) => some .display
  | .run (.exit r _) => some (runningInstr r s)

/-- The state in which the block's next step dispatches the request word `w`: what acceptance leaves of it, with the
block's turn next (log 16). A recorded fault or refusal stays (60_exceptions.md R607). -/
def placeRequest (w : Word) (s : State) : State :=
  (((s.setReqShadow w).setLatched (latchedOf w s.bufBase s.bufLen)).setSeq
    (.run (.dispatch (requestOf (decodeReq w))))).setSched ⟨.block :: s.sched.order, s.sched.taken⟩

/-- The state in which the block's next step runs the first primitive of the frame `w`, with the block's turn next (log
14, log 16). A recorded fault or refusal stays (60_exceptions.md R607). -/
def placeFrame (w : FrameWord) (s : State) : State :=
  (startFrame (frameAt w s).1 w s).setSched ⟨.block :: s.sched.order, s.sched.taken⟩

end Sys2Proof.Machine
end

