-- ==== Sys2Proof/Machine/Illegal.lean ====
section
/-! DEFINITION. The illegal request words (45_request_port.md R504): each is raised at dispatch, before the state
check. -/

namespace Sys2Proof.Machine

/-- Dispatch of a word that decodes to `ILLEGAL` (R502, R504). DESIGN CHOICE: `exec` does the same at any other
point of `SEQ`, where no step runs such a word (log 14). -/
def dispatchIllegal (s : State) : State := raise .errIllegal s

/-- Reserved `OP` 0b000. -/
def execRsvOp0 (_rest : BitVec 29) (s : State) : Host.Outcome State Fault Refusal := .next (dispatchIllegal s)

/-- Reserved `OP` 0b101. -/
def execRsvOp5 (_rest : BitVec 29) (s : State) : Host.Outcome State Fault Refusal := .next (dispatchIllegal s)

/-- Reserved `OP` 0b110. -/
def execRsvOp6 (_rest : BitVec 29) (s : State) : Host.Outcome State Fault Refusal := .next (dispatchIllegal s)

/-- Reserved `OP` 0b111. -/
def execRsvOp7 (_rest : BitVec 29) (s : State) : Host.Outcome State Fault Refusal := .next (dispatchIllegal s)

/-- A legal `OP` with a nonzero reserved or unused field. -/
def execIllegalFields (_op : BitVec 3) (_rsv0 : BitVec 1) (_color : Nibble) (_rsv1 : BitVec 24) (s : State) :
    Host.Outcome State Fault Refusal := .next (dispatchIllegal s)

end Sys2Proof.Machine
end

