-- ==== Sys2Proof/Machine/Dispatch.lean ====
section
/-! DEFINITION. One arm per instruction. -/

namespace Sys2Proof.Machine

def exec (i : Instr) (s : State) : Host.Outcome State Fault Refusal :=
  match i with
  | .init => Sys2Proof.Machine.execInit s
  | .fill n => Sys2Proof.Machine.execFill n s
  | .display => Sys2Proof.Machine.execDisplay s
  | .sleep => Sys2Proof.Machine.execSleep s
  | .rsvOp0 rest => Sys2Proof.Machine.execRsvOp0 rest s
  | .rsvOp5 rest => Sys2Proof.Machine.execRsvOp5 rest s
  | .rsvOp6 rest => Sys2Proof.Machine.execRsvOp6 rest s
  | .rsvOp7 rest => Sys2Proof.Machine.execRsvOp7 rest s
  | .illegalFields op rsv0 color rsv1 => Sys2Proof.Machine.execIllegalFields op rsv0 color rsv1 s
  | .cmd b => Sys2Proof.Machine.execCmd b s
  | .data b => Sys2Proof.Machine.execData b s

end Sys2Proof.Machine
end

