-- ==== Sys2Proof/Machine/Step.lean ====
section
/-! DEFINITION. The step: the agent whose turn it is moves (45_request_port.md R511). -/

namespace Sys2Proof.Machine

/-- The block's step (10_state.md R121): none after a recorded fault (43_pixel_transmission.md R470); while
`SEQ = Ready` the block waits (70_reset_and_hazards.md R701). -/
def blockStep (s : State) : Host.Outcome State Fault Refusal :=
  match s.fault with
  | some f => .fault f
  | none =>
    match fetch s with
    | none => .next s
    | some i => exec i s

/-- One step of the machine: none after a recorded refusal (60_exceptions.md R607, log 9), else the step of the agent
whose turn it is. -/
def step (s : State) : Host.Outcome State Fault Refusal :=
  match s.refusal with
  | some r => .refused r
  | none =>
    match s.turn with
    | .host => hostStep s.takeTurn
    | .block => blockStep s.takeTurn

/-- The state with an opcode-table word in the place that the next step fetches from (log 16). -/
def State.withFetchWord (s : State) (nbits w : Nat) : State :=
  match tableFormat nbits with
  | .req => placeRequest (BitVec.ofNat 32 (w % 2 ^ nbits)) s
  | .frame => placeFrame (BitVec.ofNat 9 (w % 2 ^ nbits)) s

end Sys2Proof.Machine
end

