-- ==== Sys2Proof/Safety.lean ====
section
/-! DEFINITION. The terms claims are made in: the frames of a trace, the bus discipline, the invariants, and a safe
run. -/

namespace Sys2Proof.Machine

/-! ### Reading a trace -/

/-- What a reader of the trace keeps: the level of `DC` and the frames since the last `Accept`, oldest first. An
exchange is a frame with the level `DC` has then (30_encoding.md R306). -/
def framesNext : Level × List FrameWord → Event → Level × List FrameWord
  | (_, fs), .line .dc v => (v, fs)
  | (dc, fs), .xfer b _ => (dc, fs ++ [frameWord dc b])
  | (dc, _), .accept _ => (dc, [])
  | r, _ => r

/-- The frames a list of events sends after its last `Accept`, when `DC` is at level `dc` before it. -/
def framesIn (dc : Level) (es : List Event) : List FrameWord := (es.foldl framesNext (dc, [])).2

/-- The frames of the request that runs or ran last (20_memory.md R210). -/
def framesSent (tr : List Event) : List FrameWord := framesIn 0 tr

/-- An event without what the environment chose in it: the duration of a delay and the byte received. -/
def Event.shape : Event → Event
  | .delay k _ => .delay k 0
  | .xfer b _ => .xfer b 0
  | e => e

/-- The five events of the frame `w`, in shape (40_bus_transport.md R403). -/
def frameEvents (w : FrameWord) : List Event :=
  [.line .csN 0, .line .dc (w.extractLsb' 8 1), .delay .setup 0, .xfer (w.extractLsb' 0 8) 0, .line .csN 1]

/-- The four events of `HARD_RESET`, in shape (41_initialization.md R420). -/
def resetEvents : List Event :=
  [.line .rstN 0, .delay .rstLow 0, .line .rstN 1, .delay .rstHigh 0]

/-- The events of `n` busy samples at level `a`, each with the delay after it, in shape (42_busy_wait.md R441). -/
def busyEvents (a : Level) : Nat → List Event
  | 0 => []
  | n + 1 => .poll a :: .delay .poll 0 :: busyEvents a n

/-- An event of the bus or a delay: what a request that ends with a validation error never emits (45_request_port.md
R512). -/
def Event.onBus : Event → Bool
  | .line _ _ => true
  | .delay _ _ => true
  | .xfer _ _ => true
  | .poll _ => false
  | .memRd _ _ => false
  | .accept _ => false
  | .done _ => false

/-- The minimum of a kind of delay (40_bus_transport.md R403, 41_initialization.md R420, 42_busy_wait.md R441). -/
def delayMin (c : Cfg) : DelayKind → Nat
  | .rstLow => c.tRstLowMin
  | .rstHigh => c.tRstHighMin
  | .setup => c.tSetupMin
  | .poll => c.tPollMin

/-- An event that, if it is a delay, lasts at least its minimum (40_bus_transport.md R401). -/
def Event.longEnough (c : Cfg) : Event → Bool
  | .delay k t => delayMin c k ≤ t
  | _ => true

/-! ### Chip-select bracketing (40_bus_transport.md R407) -/

/-- Where a reader of the trace stands with respect to the frames. -/
inductive BusState where
  /-- Outside a frame. -/
  | closed
  /-- After `Line(CS_N, 0)`. -/
  | selected
  /-- After `Line(DC, ·)` in a frame. -/
  | addressed
  /-- After the frame's one exchange. -/
  | exchanged
  /-- The trace breaks the bracketing. -/
  | broken
  deriving DecidableEq, Repr

/-- The reader's place after one more event. -/
def busNext : BusState → Event → BusState
  | .closed, .line .csN v => if v = 0 then .selected else .broken
  | .closed, .line .dc _ => .broken
  | .closed, .line .rstN _ => .closed
  | .closed, .xfer _ _ => .broken
  | .closed, _ => .closed
  | .selected, .line .dc _ => .addressed
  | .addressed, .delay _ _ => .addressed
  | .addressed, .xfer _ _ => .exchanged
  | .exchanged, .line .csN v => if v = 1 then .closed else .broken
  | _, _ => .broken

/-- The reader's place after a whole trace. -/
def busScan (tr : List Event) : BusState := tr.foldl busNext .closed

/-- Where the reader stands when `SEQ` is at this position. -/
def busAt : Seq → BusState
  | .run (.frame _ _ .select) => .closed
  | .run (.frame _ _ .setDc) => .selected
  | .run (.frame _ _ .setup) => .addressed
  | .run (.frame _ _ .exchange) => .addressed
  | .run (.frame _ _ .deselect) => .exchanged
  | _ => .closed

/-- Inside a frame `DC` already has the level of the frame's word. -/
def dcSet (s : State) : Prop :=
  match s.seq with
  | .run (.frame _ w .setup) => s.pins.dc = w.extractLsb' 8 1
  | .run (.frame _ w .exchange) => s.pins.dc = w.extractLsb' 8 1
  | .run (.frame _ w .deselect) => s.pins.dc = w.extractLsb' 8 1
  | _ => True

/-- The level `RST_N` has at a position: low only between the two edges of `HARD_RESET` (41_initialization.md R420). -/
def rstAt : Seq → Level
  | .run (.hardReset .holdLow) => 0
  | .run (.hardReset .driveHigh) => 0
  | _ => 1

/-- The bus invariant: the trace is bracketed and the lines are as the position says (40_bus_transport.md R407,
R410). -/
structure BusInv (s : State) : Prop where
  scan : busScan s.trace = busAt s.seq
  csN : s.pins.csN = if busAt s.seq = .closed then 1 else 0
  dc : dcSet s
  rstN : s.pins.rstN = rstAt s.seq

/-! ### The panel state (10_state.md R103, 42_busy_wait.md R445) -/

/-- Awake or Idle: the panel is on and nothing is in flight (45_request_port.md R503). -/
def awakeOrIdle (p : PanelState) : Bool := p == .awake || p == .idle

/-- The panel states that can go with a position. -/
def panelAt : Seq → PanelState → Bool
  | .ready, p => p != .refreshing
  | .run (.dispatch _), p => p != .refreshing
  | .run (.frame (.init _) _ _), p => p == .uninitialized
  | .run (.frame _ _ _), p => awakeOrIdle p
  | .run (.hardReset _), p => p == .uninitialized
  | .run (.wait .init _), p => p == .uninitialized
  | .run (.wait .fill _), p => p == .refreshing
  | .run (.wait .display _), p => p == .refreshing
  | .run (.wait .sleep _), p => awakeOrIdle p
  | .run (.read _), p => awakeOrIdle p
  | .run (.exit .init .ok), p => p == .awake
  | .run (.exit .fill .ok), p => p == .idle
  | .run (.exit .display .ok), p => p == .idle
  | .run (.exit .sleep .ok), p => p == .asleep
  | .run (.exit .display .errColor), p => awakeOrIdle p
  | .run (.exit _ .errTimeout), p => p == .uninitialized
  | .run (.exit _ _), _ => false

/-- The panel-state invariant. -/
abbrev PanelInv (s : State) : Prop := panelAt s.seq s.pstate = true

/-! ### The running request -/

/-- The request a position belongs to (10_state.md R120). -/
def Point.request : Point → Option Request
  | .dispatch r => r
  | .frame (.init _) _ _ => some .init
  | .frame (.fill _) _ _ => some .fill
  | .frame (.display _) _ _ => some .display
  | .frame (.sleep _) _ _ => some .sleep
  | .hardReset _ => some .init
  | .wait r _ => some r
  | .read _ => some .display
  | .exit r _ => some r

/-- A data frame of two recognised codes, packed (43_pixel_transmission.md R466, R468). -/
def pixelFrame (c : Cfg) (w : FrameWord) : Prop :=
  ∃ hi lo, w = dataWord (pack hi lo) ∧ recognisedNibble c hi = true ∧ recognisedNibble c lo = true

/-- The word a statement of the pseudocode sends is the one on the pins, and the loop counter is in its range
(30_encoding.md R306, R308). A frame of `DISPLAY` comes only after a length that matches. -/
def frameOk (s : State) (c : FrameCall) (w : FrameWord) : Prop :=
  match c with
  | .init j => (initFrames s.cfg)[j]? = some w
  | .fill .frameWrite => w = cmdWord s.cfg.cmdFrameWrite ∧ recognisedNibble s.cfg s.latched.color = true
  | .fill .pixel => w = dataWord (fillByte s.latched.color) ∧ s.k < s.cfg.nbytes ∧
      recognisedNibble s.cfg s.latched.color = true
  | .fill .refresh => w = cmdWord s.cfg.cmdRefresh ∧ s.k = s.cfg.nbytes ∧
      recognisedNibble s.cfg s.latched.color = true
  | .display .frameWrite => w = cmdWord s.cfg.cmdFrameWrite ∧ s.latched.len.toNat = s.cfg.npix
  | .display .pixel => s.k < s.cfg.nbytes ∧ s.latched.len.toNat = s.cfg.npix ∧ pixelFrame s.cfg w
  | .display .refresh => w = cmdWord s.cfg.cmdRefresh ∧ s.k = s.cfg.nbytes ∧ s.latched.len.toNat = s.cfg.npix
  | .sleep .deepSleep => w = cmdWord s.cfg.cmdDeepSleep
  | .sleep .confirm => w = cmdWord s.cfg.cmdSleepConfirm
  | .sleep .checkCode => w = dataWord s.cfg.sleepCheckCode

/-- What the position says of the operands and counters. -/
def pointOk (s : State) : Point → Prop
  | .dispatch _ => True
  | .frame c w _ => frameOk s c w
  | .hardReset _ => True
  | .wait _ .sample => timedOut s.cfg s.polls = false
  | .wait _ .hold => timedOut s.cfg s.polls = false
  | .read .validate => s.k < s.cfg.npix ∧ s.latched.len.toNat = s.cfg.npix
  | .read .first => s.k < s.cfg.nbytes ∧ s.latched.len.toNat = s.cfg.npix
  | .read (.second _) => s.k < s.cfg.nbytes ∧ s.latched.len.toNat = s.cfg.npix
  | .exit _ _ => True

/-- The request invariant: the latched fields are those of the accepted word, `SEQ` runs the request that word
decodes to, the frame on the pins is one the request sends, and the counters are in range (10_state.md R114, R120,
R122, 30_encoding.md R306). -/
structure RequestInv (s : State) : Prop where
  op : s.latched.op = s.reqShadow.extractLsb' 0 3
  color : s.latched.color = s.reqShadow.extractLsb' 4 4
  request : ∀ p, s.seq = .run p → p.request = requestOf (decodeReq s.reqShadow)
  point : ∀ p, s.seq = .run p → pointOk s p
  k : s.k ≤ s.cfg.npix

/-! ### The frames sent so far -/

/-- The frames of a whole `FILL` of code `n` (43_pixel_transmission.md R465). -/
def fillFrames (c : Cfg) (n : Nibble) : List FrameWord :=
  cmdWord c.cmdFrameWrite :: (List.replicate c.nbytes (dataWord (fillByte n)) ++ [cmdWord c.cmdRefresh])

/-- What a `DISPLAY` has sent after `n` pairs: the frame-write frame, then `n` data frames, each of two recognised codes
(43_pixel_transmission.md R466, R467). -/
def displayPairs (c : Cfg) (n : Nat) (fs : List FrameWord) : Prop :=
  ∃ ws : List FrameWord, fs = cmdWord c.cmdFrameWrite :: ws ∧ ws.length = n ∧ ∀ w ∈ ws, pixelFrame c w

/-- The frames a request has sent before the frame of this statement. -/
def sentBefore (s : State) (c : FrameCall) (fs : List FrameWord) : Prop :=
  match c with
  | .init j => fs = (initFrames s.cfg).take j
  | .fill .frameWrite => fs = []
  | .fill .pixel => fs = (fillFrames s.cfg s.latched.color).take (s.k + 1)
  | .fill .refresh => fs = (fillFrames s.cfg s.latched.color).take (s.cfg.nbytes + 1)
  | .display .frameWrite => fs = []
  | .display .pixel => displayPairs s.cfg s.k fs
  | .display .refresh => displayPairs s.cfg s.cfg.nbytes fs
  | .sleep .deepSleep => fs = []
  | .sleep .confirm => fs = [cmdWord s.cfg.cmdDeepSleep]
  | .sleep .checkCode => fs = [cmdWord s.cfg.cmdDeepSleep, cmdWord s.cfg.cmdSleepConfirm]

/-- The frames of a whole `DISPLAY`: `NBYTES` data frames of recognised codes between the frame-write and the refresh
frame, and no others (43_pixel_transmission.md R467). -/
def displaySent (c : Cfg) (fs : List FrameWord) : Prop :=
  ∃ gs, displayPairs c c.nbytes gs ∧ fs = gs ++ [cmdWord c.cmdRefresh]

/-- The frames the running request has sent when `SEQ` is at this point. -/
def sentAt (s : State) (fs : List FrameWord) : Point → Prop
  | .dispatch _ => fs = []
  | .frame c w .deselect => ∃ before, fs = before ++ [w] ∧ sentBefore s c before
  | .frame c _ _ => sentBefore s c fs
  | .hardReset _ => fs = []
  | .wait .init _ => fs = initFrames s.cfg
  | .wait .fill _ => fs = fillFrames s.cfg s.latched.color
  | .wait .display _ => displaySent s.cfg fs
  | .wait .sleep _ => fs = [cmdWord s.cfg.cmdDeepSleep]
  | .read .validate => fs = []
  | .read _ => displayPairs s.cfg s.k fs
  | .exit .init _ => fs = initFrames s.cfg
  | .exit .fill _ => fs = fillFrames s.cfg s.latched.color
  | .exit .display .errColor => fs = []
  | .exit .display _ => displaySent s.cfg fs
  | .exit .sleep .ok =>
    fs = [cmdWord s.cfg.cmdDeepSleep, cmdWord s.cfg.cmdSleepConfirm, dataWord s.cfg.sleepCheckCode]
  | .exit .sleep _ => fs = [cmdWord s.cfg.cmdDeepSleep]

/-- The frame invariant: whatever the host does meanwhile, the frames sent since `Accept` are those the position says,
none omitted, reordered or added (41_initialization.md R422, 43_pixel_transmission.md R467, 44_power_down.md R490). -/
structure SentInv (s : State) : Prop where
  dc : (s.trace.foldl framesNext (0, [])).1 = s.pins.dc
  sent : ∀ p, s.seq = .run p → sentAt s (framesSent s.trace) p

/-! ### Requests that end before any frame -/

/-- Whether the events since the last `Accept` hold no bus event. -/
def quietNext (q : Bool) : Event → Bool
  | .accept _ => true
  | e => q && !e.onBus

/-- No bus event since the last `Accept` (45_request_port.md R512). -/
def quietSince (tr : List Event) : Bool := tr.foldl quietNext true

/-- The positions before the first frame of a request, and the exit that a rejected buffer leads to. -/
def beforeFrames : Seq → Bool
  | .run (.dispatch _) => true
  | .run (.read .validate) => true
  | .run (.exit .display .errColor) => true
  | _ => false

/-- At those positions the request has emitted no bus event. -/
abbrev QuietInv (s : State) : Prop := beforeFrames s.seq = true → quietSince s.trace = true

/-! ### What a step of the block leaves alone -/

/-- What no step of the block changes: the host's registers, the accepted word and its latched operands, `OVERRUN`, the
configuration, host memory, the host, the schedule and a recorded refusal (45_request_port.md R500 to R508, 20_memory.md
R205). -/
structure BlockFrame (s t : State) : Prop where
  reqShadow : t.reqShadow = s.reqShadow
  bufBase : t.bufBase = s.bufBase
  bufLen : t.bufLen = s.bufLen
  latched : t.latched = s.latched
  overrun : t.overrun = s.overrun
  cfg : t.cfg = s.cfg
  mem : t.mem = s.mem
  host : t.host = s.host
  sched : t.sched = s.sched
  refusal : t.refusal = s.refusal

/-! ### Runs -/

/-- The next `n` turns are scripted to be the block's. -/
def State.blockTurns (s : State) (n : Nat) : Prop :=
  ∃ rest, s.sched.order = List.replicate n .block ++ rest

/-- No fault and no refusal is recorded: the premise of every claim (60_exceptions.md R607). -/
abbrev State.unrecorded (s : State) : Prop := s.fault = none ∧ s.refusal = none

/-- `n` steps from `s` all go on, and none of them records a fault or a refusal (R607). Nothing clears a record, so it is
enough to look at the last state. -/
def SafeRun (n : Nat) (s : State) : Prop := ∃ t, Host.Core.run Sys2Proof.core n s = .next t ∧ t.unrecorded

/-- The next state, if there is one. -/
def nextOf (o : Host.Outcome State Fault Refusal) : Option State :=
  match o with
  | .next s => some s
  | .fault _ => none
  | .refused _ => none

end Sys2Proof.Machine
end

