-- ==== Sys2Proof/Certificates/Slice0/Obligations.lean ====
section
/-! DEFINITION. The statements for the provers. Each docstring names the rule of spec/ the statement formalises. -/

open Sys2Proof Sys2Proof.Machine

/-! ### Encodings -/

/-- Decoding the word of any well-formed instruction gives the instruction back, with every operand at every value
(30_encoding.md R301 to R306, the encoding tables). -/
def Obligations.DecodeOfEncodeGivesInstrBack : Prop :=
  ∀ i : Instr, i.wellFormed = true → decode (encode i) = i

/-- Every 32-bit request word and every 9-bit frame word decodes to one well-formed instruction, whose word it is: the
rows of the opcode table are disjoint and cover all words (30_encoding.md R304 to R306). -/
def Obligations.EveryWordIsTheWordOfItsInstr : Prop :=
  ∀ c : Code, (decode c).wellFormed = true ∧ encode (decode c) = c

/-- Words written out from R301, R302 and R306 decode to what they stand for (the vectors of 95_test_vectors.md
§3.4). -/
def Obligations.SpecWordsDecodeAsTheTableSays : Prop :=
  decodeReq 0x00000001 = .init ∧ decodeReq 0x00000012 = .fill 0x1 ∧ decodeReq 0x000000F2 = .fill 0xF ∧
  decodeReq 0x00000003 = .display ∧ decodeReq 0x00000004 = .sleep ∧ decodeReq 0x00000000 = .rsvOp0 0 ∧
  decodeReq 0x00000005 = .rsvOp5 0 ∧ decodeReq 0x0000000E = .rsvOp6 1 ∧ decodeReq 0xFFFFFFFF = .rsvOp7 0x1FFFFFFF ∧
  decodeReq 0x0000000A = .illegalFields 2 1 0 0 ∧ decodeReq 0x00000011 = .illegalFields 1 0 1 0 ∧
  decodeReq 0x80000001 = .illegalFields 1 0 0 0x800000 ∧ decodeFrame 0x0B1 = .cmd 0xB1 ∧
  decodeFrame 0x111 = .data 0x11

/-- The request decoder is R305's: the four legal forms, and ILLEGAL for every other word (30_encoding.md R305). -/
def Obligations.RequestDecoderIsTheSpecs : Prop :=
  ∀ w : Word,
    (w = 0x00000001 → decodeReq w = .init) ∧
    (w &&& 0xFFFFFF0F = 0x2 → decodeReq w = .fill (w.extractLsb' 4 4)) ∧
    (w = 0x00000003 → decodeReq w = .display) ∧
    (w = 0x00000004 → decodeReq w = .sleep) ∧
    (w ≠ 0x00000001 → w &&& 0xFFFFFF0F ≠ 0x2 → w ≠ 0x00000003 → w ≠ 0x00000004 →
      requestOf (decodeReq w) = none ∧ ∀ b, decodeReq w ≠ .cmd b ∧ decodeReq w ≠ .data b)

/-! ### The pixel encoder -/

/-- `ENCODE8(b)` is the nibble of the colour whose 8-bit code is `b`, and nothing where there is none
(43_pixel_transmission.md R460). -/
def Obligations.EncodeEightMapsCodesToNibbles : Prop :=
  ∀ (c : Cfg) (b : Byte), c.Valid →
    (∀ x : Color, c.code8.get x = b → encode8 c b = some (c.nibble.get x)) ∧
    ((∀ x : Color, c.code8.get x ≠ b) → encode8 c b = none)

/-- `ENCODE8` is total over the recognised codes and injective (43_pixel_transmission.md R461). -/
def Obligations.EncodeEightIsTotalAndInjective : Prop :=
  ∀ c : Cfg, c.Valid →
    (∀ x : Color, ∃ n, encode8 c (c.code8.get x) = some n) ∧
    (∀ (b b' : Byte) (n : Nibble), encode8 c b = some n → encode8 c b' = some n → b = b')

/-- `PACK` puts the first pixel in bits 7:4 and the second in bits 3:0, no bit crosses, and `FILLBYTE(n) = 0x11 * n`
(43_pixel_transmission.md R462, R463). -/
def Obligations.PackPutsTheFirstPixelHigh : Prop :=
  ∀ hi lo : Nibble,
    pack hi lo = (hi.setWidth 8 <<< 4) ||| lo.setWidth 8 ∧
    (pack hi lo).extractLsb' 4 4 = hi ∧ (pack hi lo).extractLsb' 0 4 = lo ∧
    fillByte hi = pack hi hi ∧ fillByte hi = (hi.setWidth 8 <<< 4) ||| hi.setWidth 8 ∧
    (fillByte hi).toNat = 0x11 * hi.toNat

/-! ### The framer -/

/-- At each of the five points of a frame, `CMD` and `DATA` run exactly the primitive of `FRAME(dc, b)` that comes next
and go on at the next one; after the last, the request goes on (40_bus_transport.md R403 to R405). -/
def Obligations.FrameStepRunsItsPrimitive : Prop :=
  ∀ (s : State) (c : FrameCall) (b : Byte) (i : Instr) (w : FrameWord) (dc : Level),
    (i = .cmd b ∧ w = cmdWord b ∧ dc = 0) ∨ (i = .data b ∧ w = dataWord b ∧ dc = 1) →
    (s.seq = .run (.frame c w .select) → exec i s = .next { s with
      seq := .run (.frame c w .setDc), pins := { s.pins with csN := 0 }, trace := s.trace ++ [.line .csN 0] }) ∧
    (s.seq = .run (.frame c w .setDc) → exec i s = .next { s with
      seq := .run (.frame c w .setup), pins := { s.pins with dc := dc }, trace := s.trace ++ [.line .dc dc] }) ∧
    (s.seq = .run (.frame c w .setup) → exec i s = .next { s with
      seq := .run (.frame c w .exchange), env := s.env.takeSlack,
      trace := s.trace ++ [.delay .setup (s.cfg.tSetupMin + s.env.nextSlack)] }) ∧
    (s.seq = .run (.frame c w .exchange) → exec i s = .next { s with
      seq := .run (.frame c w .deselect), env := s.env.takeRx, trace := s.trace ++ [.xfer b s.env.nextRx] }) ∧
    (s.seq = .run (.frame c w .deselect) → exec i s = .next (afterFrame c { s with
      pins := { s.pins with csN := 1 }, trace := s.trace ++ [.line .csN 1] }))

/-- Five turns of the block from the start of a frame append exactly the five events of R403 in order, and leave `CS_N`
high, `DC` at the frame's level and `RST_N`, `RESULT`, the host registers and host memory as they were
(40_bus_transport.md R403, R408, R410). -/
def Obligations.FrameAppendsFiveEvents : Prop :=
  ∀ (s : State) (c : FrameCall) (w : FrameWord),
    s.seq = .run (.frame c w .select) → s.unrecorded → s.blockTurns 5 →
    ∃ t, Host.Core.run Sys2Proof.core 5 s = .next t ∧
      t.trace = s.trace ++ [.line .csN 0, .line .dc (w.extractLsb' 8 1),
        .delay .setup (s.cfg.tSetupMin + s.env.nextSlack),
        .xfer (w.extractLsb' 0 8) s.env.takeSlack.nextRx, .line .csN 1] ∧
      t.pins = ⟨1, w.extractLsb' 8 1, s.pins.rstN⟩ ∧ t.result = s.result ∧ t.overrun = s.overrun ∧
      t.reqShadow = s.reqShadow ∧ t.bufBase = s.bufBase ∧ t.bufLen = s.bufLen ∧ t.latched = s.latched ∧
      t.mem = s.mem ∧ t.cfg = s.cfg ∧ t.host = s.host ∧ t.unrecorded

/-! ### Dispatch and the first primitive of each request -/

/-- Dispatch of `INIT` in a permitted state sets `PSTATE <- Uninitialized` and drives `RST_N` low, and nothing else
(41_initialization.md R420, R421; 45_request_port.md R502). -/
def Obligations.InitDispatchDrivesResetLow : Prop :=
  ∀ (s : State) (r : Option Request), s.seq = .run (.dispatch r) → permitted .init s.pstate = true →
    exec .init s = .next { s with
      pstate := .uninitialized, seq := .run (.hardReset .holdLow), pins := { s.pins with rstN := 0 },
      trace := s.trace ++ [.line .rstN 0] }

/-- The rest of `HARD_RESET`: the low hold, the rising edge and the high hold, each with its minimum, and the first
frame of `INIT` right after it (41_initialization.md R420, R426). -/
def Obligations.HardResetHoldsThenRises : Prop :=
  ∀ s : State,
    (s.seq = .run (.hardReset .holdLow) → exec .init s = .next { s with
      seq := .run (.hardReset .driveHigh), env := s.env.takeSlack,
      trace := s.trace ++ [.delay .rstLow (s.cfg.tRstLowMin + s.env.nextSlack)] }) ∧
    (s.seq = .run (.hardReset .driveHigh) → exec .init s = .next { s with
      seq := .run (.hardReset .holdHigh), pins := { s.pins with rstN := 1 },
      trace := s.trace ++ [.line .rstN 1] }) ∧
    (∀ w, (initFrames s.cfg).head? = some w → s.seq = .run (.hardReset .holdHigh) → exec .init s = .next { s with
      seq := .run (.frame (.init 0) w .select), env := s.env.takeSlack,
      trace := s.trace ++ [.delay .rstHigh (s.cfg.tRstHighMin + s.env.nextSlack)] })

/-- Dispatch of `FILL` in a permitted state: with a recognised colour code it runs the first primitive of the
frame-write frame, and with an unrecognised one it ends with `ERR_COLOR` before any frame (43_pixel_transmission.md
R465, 60_exceptions.md R603(i)). -/
def Obligations.FillDispatchChecksTheColour : Prop :=
  ∀ (s : State) (r : Option Request) (n : Nibble),
    s.seq = .run (.dispatch r) → permitted .fill s.pstate = true → s.latched.color = n →
    ((∃ x : Color, s.cfg.nibble.get x = n) → exec (.fill n) s = .next { s with
      seq := .run (.frame (.fill .frameWrite) (cmdWord s.cfg.cmdFrameWrite) .setDc), pins := { s.pins with csN := 0 },
      trace := s.trace ++ [.line .csN 0] }) ∧
    ((∀ x : Color, s.cfg.nibble.get x ≠ n) → exec (.fill n) s = .next { s with
      seq := .ready, result := .errColor, trace := s.trace ++ [.done .errColor] })

/-- Dispatch of `DISPLAY` in a permitted state with the right length reads byte 0 of the buffer, and a recognised byte
goes on (43_pixel_transmission.md R464, R466). -/
def Obligations.DisplayDispatchReadsByteZero : Prop :=
  ∀ (s : State) (r : Option Request) (b : Byte) (n : Nibble),
    s.seq = .run (.dispatch r) → permitted .display s.pstate = true → s.latched.len.toNat = s.cfg.npix →
    2 ≤ s.cfg.npix → Memory.read s.mem s.latched.base.toNat = some b → encode8 s.cfg b = some n →
    exec .display s = .next { s with
      seq := .run (.read .validate), k := 1, trace := s.trace ++ [.memRd s.latched.base b] }

/-- Dispatch of `SLEEP` in a permitted state runs the first primitive of the deep-sleep frame (44_power_down.md
R490). -/
def Obligations.SleepDispatchOpensDeepSleepFrame : Prop :=
  ∀ (s : State) (r : Option Request), s.seq = .run (.dispatch r) → permitted .sleep s.pstate = true →
    exec .sleep s = .next { s with
      seq := .run (.frame (.sleep .deepSleep) (cmdWord s.cfg.cmdDeepSleep) .setDc), pins := { s.pins with csN := 0 },
      trace := s.trace ++ [.line .csN 0] }

/-- Each of the five illegal rows ends at once with `ERR_ILLEGAL` in every state of the panel, and writes nothing but
`RESULT`, `SEQ` and `TRACE` (45_request_port.md R504). That `exec` does so also at a point of `SEQ` that is not
dispatch, where no step runs such a word, is the model's choice (log 14). -/
def Obligations.IllegalWordsEndWithErrIllegal : Prop :=
  ∀ (s : State) (i : Instr),
    ((∃ rest, i = .rsvOp0 rest) ∨ (∃ rest, i = .rsvOp5 rest) ∨ (∃ rest, i = .rsvOp6 rest) ∨
      (∃ rest, i = .rsvOp7 rest) ∨ (∃ op rsv0 color rsv1, i = .illegalFields op rsv0 color rsv1)) →
    exec i s = .next { s with
      seq := .ready, result := .errIllegal, trace := s.trace ++ [.done .errIllegal] }

/-- The table of R503, and what dispatch does in a state it forbids: `ERR_SEQUENCE`, with nothing else written
(45_request_port.md R502, R503). That `INIT` is forbidden in Refreshing, and ends there with `ERR_SEQUENCE`, is the
model's choice (log 13, DESIGN CHOICE): the table says so, while 41_initialization.md R421 permits every `PSTATE` and
60_exceptions.md R601 says that `INIT` never raises it. No run reaches that case. -/
def Obligations.ForbiddenStateEndsWithErrSequence : Prop :=
  (∀ p, permitted .init p = true ↔ p ≠ .refreshing) ∧
  (∀ r p, r ≠ .init → (permitted r p = true ↔ p = .awake ∨ p = .idle)) ∧
  ∀ (s : State) (r : Option Request) (i : Instr) (q : Request),
    s.seq = .run (.dispatch r) → requestOf i = some q → permitted q s.pstate = false →
    exec i s = .next { s with
      seq := .ready, result := .errSequence, trace := s.trace ++ [.done .errSequence] }

/-- `DISPLAY` with `L_LEN ≠ NPIX` ends with `ERR_LENGTH`, with no memory read and no frame (60_exceptions.md R602,
43_pixel_transmission.md R464). -/
def Obligations.WrongLengthEndsWithErrLength : Prop :=
  ∀ (s : State) (r : Option Request), s.seq = .run (.dispatch r) → permitted .display s.pstate = true →
    s.latched.len.toNat ≠ s.cfg.npix →
    exec .display s = .next { s with
      seq := .ready, result := .errLength, trace := s.trace ++ [.done .errLength] }

/-! ### The memory reads of `DISPLAY` -/

/-- One read of `VALIDATE`: a recognised byte goes on to the next index, or after the last to the frame-write frame;
an unrecognised one goes to `ERR_COLOR` (43_pixel_transmission.md R464). That the exit which comes next has a step of
its own is the model's reading (log 17, DEDUCED). -/
def Obligations.ValidateReadsInAscendingOrder : Prop :=
  ∀ (s : State) (b : Byte), s.seq = .run (.read .validate) →
    Memory.read s.mem ((s.latched.base.toNat + s.k) % 2 ^ 32) = some b →
    (∀ n, encode8 s.cfg b = some n → s.k + 1 < s.cfg.npix → exec .display s = .next { s with
      k := s.k + 1, trace := s.trace ++ [.memRd (s.latched.base + BitVec.ofNat 32 s.k) b] }) ∧
    (∀ n, encode8 s.cfg b = some n → s.k + 1 = s.cfg.npix → exec .display s = .next { s with
      k := s.k + 1, seq := .run (.frame (.display .frameWrite) (cmdWord s.cfg.cmdFrameWrite) .select),
      trace := s.trace ++ [.memRd (s.latched.base + BitVec.ofNat 32 s.k) b] }) ∧
    (encode8 s.cfg b = none → exec .display s = .next { s with
      seq := .run (.exit .display .errColor),
      trace := s.trace ++ [.memRd (s.latched.base + BitVec.ofNat 32 s.k) b] })

/-- Transmission reads bytes `2K` and `2K + 1` and sends them packed, the first in the high nibble
(43_pixel_transmission.md R466, R468; 20_memory.md R206). That byte `2K + 1` is read next and no fault is recorded
also where byte `2K` is unrecognised is the model's choice (log 8): it follows the pseudocode of R466 against section
3.9 of 95_test_vectors.md. -/
def Obligations.TransmissionPacksTwoBytes : Prop :=
  ∀ (s : State) (b : Byte),
    (s.seq = .run (.read .first) → Memory.read s.mem ((s.latched.base.toNat + 2 * s.k) % 2 ^ 32) = some b →
      exec .display s = .next { s with
        seq := .run (.read (.second b)),
        trace := s.trace ++ [.memRd (s.latched.base + BitVec.ofNat 32 (2 * s.k)) b] }) ∧
    (∀ (b0 : Byte) (hi lo : Nibble), s.seq = .run (.read (.second b0)) →
      Memory.read s.mem ((s.latched.base.toNat + (2 * s.k + 1)) % 2 ^ 32) = some b →
      encode8 s.cfg b0 = some hi → encode8 s.cfg b = some lo →
      exec .display s = .next { s with
        seq := .run (.frame (.display .pixel) (dataWord (pack hi lo)) .select),
        trace := s.trace ++ [.memRd (s.latched.base + BitVec.ofNat 32 (2 * s.k + 1)) b] })

/-- Where transmission reads an unrecognised byte the fault `HOST_BUFFER_CHANGED` is recorded, and the block has no
further step: the fault is never cleared, by either agent, and no run from there is safe (43_pixel_transmission.md R470,
60_exceptions.md R607). That the check comes after both reads is the model's choice (log 8). -/
def Obligations.ChangedBufferIsRecordedAndStops : Prop :=
  ∀ (s : State) (b0 b1 : Byte), s.seq = .run (.read (.second b0)) →
    Memory.read s.mem ((s.latched.base.toNat + (2 * s.k + 1)) % 2 ^ 32) = some b1 →
    encode8 s.cfg b0 = none ∨ encode8 s.cfg b1 = none →
    ∃ t, exec .display s = .next t ∧ t.fault = some .hostBufferChanged ∧
      t.trace = s.trace ++ [.memRd (s.latched.base + BitVec.ofNat 32 (2 * s.k + 1)) b1] ∧
      t.pins = s.pins ∧ t.pstate = s.pstate ∧ t.result = s.result ∧
      ∀ u : State, u.fault = some .hostBufferChanged →
        blockStep u = .fault .hostBufferChanged ∧
        (∀ v, step u = .next v → v.fault = some .hostBufferChanged) ∧ ∀ n, ¬ SafeRun n u

/-- A `MemRead` the host does not answer leaves the block with no step: that of byte 0, which is made in the dispatch
step, and each of the three reads after it (20_memory.md R208(b), 43_pixel_transmission.md R464). That the missing
step is the outcome fault is the model's choice (log 9). -/
def Obligations.UnansweredReadHasNoStep : Prop :=
  ∀ s : State,
    (∀ r, s.seq = .run (.dispatch r) → permitted .display s.pstate = true → s.latched.len.toNat = s.cfg.npix →
      0 < s.cfg.npix → Memory.read s.mem s.latched.base.toNat = none →
      exec .display s = .fault .memReadUnanswered) ∧
    (s.seq = .run (.read .validate) → Memory.read s.mem ((s.latched.base.toNat + s.k) % 2 ^ 32) = none →
      exec .display s = .fault .memReadUnanswered) ∧
    (s.seq = .run (.read .first) → Memory.read s.mem ((s.latched.base.toNat + 2 * s.k) % 2 ^ 32) = none →
      exec .display s = .fault .memReadUnanswered) ∧
    (∀ b0, s.seq = .run (.read (.second b0)) →
      Memory.read s.mem ((s.latched.base.toNat + (2 * s.k + 1)) % 2 ^ 32) = none →
      exec .display s = .fault .memReadUnanswered)

/-! ### The busy-wait and the end of a request -/

/-- A busy sample of each request's wait: `POLLS` counts it; at the bound the panel state is lost and `ERR_TIMEOUT`
comes next, else the poll delay, after which the next sample is taken (42_busy_wait.md R441). That the exit which
comes next has a step of its own is the model's reading (log 17, DEDUCED). -/
def Obligations.BusySampleCountsOrTimesOut : Prop :=
  ∀ (s : State) (i : Instr) (r : Request), requestOf i = some r →
    (s.seq = .run (.wait r .sample) → s.env.nextBusy = s.cfg.busyActiveLevel.get (siteOf r) →
      (∀ n, s.cfg.busyTimeout = some n → n ≤ s.polls + 1 → exec i s = .next { s with
        pstate := .uninitialized, polls := s.polls + 1, env := s.env.takeBusy,
        seq := .run (.exit r .errTimeout), trace := s.trace ++ [.poll s.env.nextBusy] }) ∧
      ((∀ n, s.cfg.busyTimeout = some n → s.polls + 1 < n) → exec i s = .next { s with
        polls := s.polls + 1, env := s.env.takeBusy, seq := .run (.wait r .hold),
        trace := s.trace ++ [.poll s.env.nextBusy] })) ∧
    (s.seq = .run (.wait r .hold) → exec i s = .next { s with
      seq := .run (.wait r .sample), env := s.env.takeSlack,
      trace := s.trace ++ [.delay .poll (s.cfg.tPollMin + s.env.nextSlack)] })

/-- A not-busy sample ends the wait: `INIT` becomes Awake, `FILL` and `DISPLAY` Idle, with `Finish(OK)` next; `SLEEP`
keeps its state and sends the confirmation frame next (41_initialization.md R421, 43_pixel_transmission.md R465 and
R466, 44_power_down.md R490). That the exit which comes next has a step of its own is the model's reading (log 17,
DEDUCED). -/
def Obligations.NotBusySampleEndsTheWait : Prop :=
  ∀ s : State,
    (s.seq = .run (.wait .init .sample) → s.env.nextBusy ≠ s.cfg.busyActiveLevel.powerOn →
      exec .init s = .next { s with
        pstate := .awake, seq := .run (.exit .init .ok), env := s.env.takeBusy,
        trace := s.trace ++ [.poll s.env.nextBusy] }) ∧
    (∀ n, s.seq = .run (.wait .fill .sample) → s.env.nextBusy ≠ s.cfg.busyActiveLevel.refresh →
      exec (.fill n) s = .next { s with
        pstate := .idle, seq := .run (.exit .fill .ok), env := s.env.takeBusy,
        trace := s.trace ++ [.poll s.env.nextBusy] }) ∧
    (s.seq = .run (.wait .display .sample) → s.env.nextBusy ≠ s.cfg.busyActiveLevel.refresh →
      exec .display s = .next { s with
        pstate := .idle, seq := .run (.exit .display .ok), env := s.env.takeBusy,
        trace := s.trace ++ [.poll s.env.nextBusy] }) ∧
    (s.seq = .run (.wait .sleep .sample) → s.env.nextBusy ≠ s.cfg.busyActiveLevel.sleep →
      exec .sleep s = .next { s with
        seq := .run (.frame (.sleep .confirm) (cmdWord s.cfg.cmdSleepConfirm) .select), env := s.env.takeBusy,
        trace := s.trace ++ [.poll s.env.nextBusy] })

/-- The exit of each request, by `Finish(OK)` or by `raise E`: `RESULT` takes the code, `SEQ` is `Ready`, `Done` is
emitted, and nothing else is written (45_request_port.md R506, 60_exceptions.md R610). That `SLEEP` too writes
`RESULT`, which 60_exceptions.md R618 has unchanged by it, is the model's choice (log 29), and that the exit has a
step of its own is its reading (log 17, DEDUCED). -/
def Obligations.ExitWritesResultAndReady : Prop :=
  ∀ (s : State) (i : Instr) (r : Request) (code : Result), requestOf i = some r → s.seq = .run (.exit r code) →
    exec i s = .next { s with seq := .ready, result := code, trace := s.trace ++ [.done code] }

/-! ### The host port -/

/-- A 32-bit write of `w` to `REQ` while `SEQ = Ready` is accepted: `REQ_SHADOW`, `OVERRUN`, the latched registers,
`Accept` and `SEQ` (45_request_port.md R500, R505). -/
def Obligations.RequestWriteWhileReadyIsAccepted : Prop :=
  ∀ (s : State) (w : Word) (rest : List HostAct),
    s.host.script = .write 4 s.cfg.regBase w :: rest → s.seq = .ready →
    hostStep s = .next { s with
      reqShadow := w, overrun := false,
      latched := ⟨w.extractLsb' 0 3, w.extractLsb' 4 4, s.bufBase, s.bufLen⟩,
      seq := .run (.dispatch (requestOf (decodeReq w))), trace := s.trace ++ [.accept w],
      host := ⟨rest, s.host.reads⟩ }

/-- A write to `REQ` while a request runs is dropped: its only effect is `OVERRUN <- 1` (45_request_port.md R501). -/
def Obligations.RequestWriteWhileRunningIsDropped : Prop :=
  ∀ (s : State) (w : Word) (rest : List HostAct),
    s.host.script = .write 4 s.cfg.regBase w :: rest → s.seq ≠ .ready →
    hostStep s = .next { s with overrun := true, host := ⟨rest, s.host.reads⟩ }

/-- A write to `BUF_BASE` or `BUF_LEN` stores the whole word whatever `SEQ` is and does nothing else, and a write to
`STATUS`, `LINES` or a reserved offset does nothing (45_request_port.md R508, R509; the offsets are those of
20_memory.md R201). -/
def Obligations.OtherRegisterWritesStoreOrAreIgnored : Prop :=
  ∀ (s : State) (a w : Word) (rest : List HostAct), s.host.script = .write 4 a w :: rest →
    (a.toNat = s.cfg.regBase.toNat + 0x04 → hostStep s = .next { s with bufBase := w, host := ⟨rest, s.host.reads⟩ }) ∧
    (a.toNat = s.cfg.regBase.toNat + 0x08 → hostStep s = .next { s with bufLen := w, host := ⟨rest, s.host.reads⟩ }) ∧
    (∀ off, off = 0x0C ∨ off = 0x10 ∨ off = 0x14 ∨ off = 0x18 ∨ off = 0x1C → a.toNat = s.cfg.regBase.toNat + off →
      hostStep s = .next { s with host := ⟨rest, s.host.reads⟩ })

/-- What a 32-bit read of each offset returns; only a read of `LINES` draws a level of `BUSY`, and no read changes the
block (45_request_port.md R510, 10_state.md R106, R111, 20_memory.md R201). An access whose address lies outside the
window is not the block's (R201); that it has no effect and gives the host no word (log 10), that the window does not
wrap (log 23) and that the first address alone decides (log 28) are the model's choices. That the level a read of
`LINES` draws is the next of the one list the samples draw from too is the model's choice (log 18). -/
def Obligations.RegisterReadsReturnTheirWord : Prop :=
  (∀ (s : State) (a : Word) (rest : List HostAct), s.host.script = .read 4 a :: rest →
    (a.toNat = s.cfg.regBase.toNat + 0x00 →
      hostStep s = .next { s with host := ⟨rest, s.host.reads ++ [0x00000000]⟩ }) ∧
    (a.toNat = s.cfg.regBase.toNat + 0x04 →
      hostStep s = .next { s with host := ⟨rest, s.host.reads ++ [s.bufBase]⟩ }) ∧
    (a.toNat = s.cfg.regBase.toNat + 0x08 →
      hostStep s = .next { s with host := ⟨rest, s.host.reads ++ [s.bufLen]⟩ }) ∧
    (a.toNat = s.cfg.regBase.toNat + 0x0C →
      hostStep s = .next { s with host := ⟨rest, s.host.reads ++ [statusWord s]⟩ }) ∧
    (a.toNat = s.cfg.regBase.toNat + 0x10 → hostStep s = .next { s with
      host := ⟨rest, s.host.reads ++ [linesWord s.pins s.env.nextBusy]⟩, env := s.env.takeBusy }) ∧
    (∀ off, off = 0x14 ∨ off = 0x18 ∨ off = 0x1C → a.toNat = s.cfg.regBase.toNat + off →
      hostStep s = .next { s with host := ⟨rest, s.host.reads ++ [0x00000000]⟩ })) ∧
  ∀ (s : State) (a w : Word) (width : Nat) (rest : List HostAct),
    s.host.script = .write width a w :: rest ∨ s.host.script = .read width a :: rest →
    a.toNat < s.cfg.regBase.toNat ∨ s.cfg.regBase.toNat + 0x1F < a.toNat →
    hostStep s = .next { s with host := ⟨rest, s.host.reads⟩ }

/-- An access to the window of another width, or at an offset that is no multiple of 4, has no step of its own: only the
refusal is recorded (20_memory.md R202). From then on the machine has no step and no run is safe, so the record is never
cleared (60_exceptions.md R607); that both agents stop is the model's choice (log 9). -/
def Obligations.MisshapenAccessIsRefused : Prop :=
  (∀ (s : State) (a w : Word) (width off : Nat) (rest : List HostAct),
    s.host.script = .write width a w :: rest ∨ s.host.script = .read width a :: rest →
    a.toNat = s.cfg.regBase.toNat + off → off ≤ 0x1F → width ≠ 4 ∨ off % 4 ≠ 0 →
    hostStep s = .next { s with refusal := some .registerAccess }) ∧
  ∀ (u : State) (r : Refusal), u.refusal = some r → step u = .refused r ∧ ∀ n, ¬ SafeRun n u

/-- The fields of the words a read of `STATUS` and of `LINES` returns, and the codes of `PSTATE` and `RESULT` in the
first (10_state.md R101, R109 to R112). -/
def Obligations.StatusAndLinesHaveTheSpecsFields : Prop :=
  [PanelState.uninitialized, .awake, .refreshing, .idle, .asleep].map PanelState.code = [0, 1, 2, 3, 4] ∧
  [Result.none, .ok, .errSequence, .errLength, .errColor, .errTimeout, .errIllegal].map Result.code =
    [0, 1, 2, 3, 4, 5, 6] ∧
  (∀ s : State,
    (statusWord s).extractLsb' 0 3 = s.pstate.code ∧ (statusWord s).extractLsb' 3 1 = 0 ∧
    (statusWord s).extractLsb' 4 3 = s.result.code ∧
    ((statusWord s).extractLsb' 7 1 = 1 ↔ s.seq = .ready) ∧
    ((statusWord s).extractLsb' 8 1 = 1 ↔ s.overrun = true) ∧ (statusWord s).extractLsb' 9 23 = 0) ∧
  ∀ (p : Pins) (busy : Level),
    (linesWord p busy).extractLsb' 0 1 = p.csN ∧ (linesWord p busy).extractLsb' 1 1 = p.dc ∧
    (linesWord p busy).extractLsb' 2 1 = p.rstN ∧ (linesWord p busy).extractLsb' 3 1 = busy ∧
    (linesWord p busy).extractLsb' 4 28 = 0

/-- `WAITREADY` reads `STATUS` once a round and leaves the loop exactly when `READY` is 1 (30_encoding.md R315).
That it does so also where a high `REG_BASE` leaves `STATUS` at no address is the model's choice (log 25). -/
def Obligations.WaitReadyPollsStatus : Prop :=
  ∀ (s : State) (rest : List HostAct), s.host.script = .waitReady :: rest →
    (s.seq = .ready → hostStep s = .next { s with host := ⟨rest, s.host.reads ++ [statusWord s]⟩ }) ∧
    (s.seq ≠ .ready → hostStep s = .next { s with host := ⟨s.host.script, s.host.reads ++ [statusWord s]⟩ })

/-! ### Reset and the step -/

/-- The construction reset (70_reset_and_hazards.md R700). -/
def Obligations.ResetGivesTheTabledValues : Prop :=
  State.reset.pstate = .uninitialized ∧ State.reset.seq = .ready ∧ State.reset.k = 0 ∧ State.reset.polls = 0 ∧
  State.reset.reqShadow = 0 ∧ State.reset.bufLen = 0 ∧ State.reset.bufBase = 0 ∧ State.reset.result = .none ∧
  State.reset.overrun = false ∧ State.reset.latched = ⟨0, 0, 0, 0⟩ ∧ State.reset.pins = ⟨1, 0, 1⟩ ∧
  State.reset.trace = [] ∧ statusWord State.reset = 0x00000080 ∧
  (∀ busy, (linesWord State.reset.pins busy).extractLsb' 0 3 = 0b101 ∧
    (linesWord State.reset.pins busy).extractLsb' 3 1 = busy)

/-- With nothing recorded (60_exceptions.md R607), a step in which the block's turn comes runs the decoded
instruction: of the request word in `REQ_SHADOW` at dispatch (45_request_port.md R502), of the frame word inside a
frame, and of the running request elsewhere. Around `exec` the step only takes the turn. Three clauses are the model's
choice: that dispatch decodes `REQ_SHADOW`, which 10_state.md R106 has used only to fill `Accept` (log 30), that the
block's turn at `Ready` is a resting turn, and that the schedule in State says whose turn it is (log 6). That a
running `FILL` takes its operand from `L_COLOR` (log 20, DEDUCED), and that the exit has a step of its own (log 17,
DEDUCED), are its readings. -/
def Obligations.StepRunsTheDecodedInstr : Prop :=
  ∀ s : State, s.turn = .block → s.unrecorded →
    (∀ r, s.seq = .run (.dispatch r) → step s = exec (decodeReq s.reqShadow) s.takeTurn) ∧
    (∀ c w ph, s.seq = .run (.frame c w ph) → step s = exec (decodeFrame w) s.takeTurn) ∧
    (∀ p, s.seq = .run (.hardReset p) → step s = exec .init s.takeTurn) ∧
    (∀ p, s.seq = .run (.read p) → step s = exec .display s.takeTurn) ∧
    (∀ r p, s.seq = .run (.wait r p) → step s = exec (runningInstr r s) s.takeTurn) ∧
    (∀ r code, s.seq = .run (.exit r code) → step s = exec (runningInstr r s) s.takeTurn) ∧
    (s.seq = .ready → step s = .next s.takeTurn)

/-- The word placed for fetching is decoded and run by the very next step, from any state with nothing recorded, in
both formats; a recorded fault or refusal stays (60_exceptions.md R607), and the next step answers it. The placing is
the model's own (log 16). The model's choices too are that a recorded refusal stops the next step, whoever's turn it
is (log 9), that a recorded fault stops the block's (log 8), that the number of bits tells a frame from a request word
(log 15), what `exec` does with a frame that no request sends (log 14), and that dispatch decodes `REQ_SHADOW` (log
30). -/
def Obligations.FetchWordIsRunByTheNextStep : Prop :=
  ∀ (s : State) (nbits w : Nat) (i : Instr), decodeTableWord nbits w = some i → nbits ≤ 32 →
    (∀ f, s.refusal = none → s.fault = some f → step (s.withFetchWord nbits w) = .fault f) ∧
    (∀ r, s.refusal = some r → step (s.withFetchWord nbits w) = .refused r) ∧
    (s.unrecorded → ∃ t, step (s.withFetchWord nbits w) = exec i t ∧ t.unrecorded ∧ t.pstate = s.pstate ∧
      t.trace = s.trace ∧ t.cfg = s.cfg ∧ t.mem = s.mem ∧ t.bufBase = s.bufBase ∧ t.bufLen = s.bufLen ∧ t.pins = s.pins)

/-! ### Invariants every step keeps -/

/-- The invariants hold at reset, and nothing is recorded there (the latter is the model's own field, log 27). That
every OPEN field of the configuration is an unknown constant is the model's choice (log 2, log 3). -/
def Obligations.InvariantsHoldAtReset : Prop :=
  BusInv State.reset ∧ PanelInv State.reset ∧ RequestInv State.reset ∧ SentInv State.reset ∧ QuietInv State.reset ∧
  Memory.wf State.reset.mem ∧ State.reset.cfg.Valid ∧ State.reset.unrecorded ∧
  (State.reset.trace.all (Event.longEnough State.reset.cfg)) = true

/-- Chip-select bracketing (40_bus_transport.md R407): every step, of either agent, keeps the bus invariant, so that
every frame in the trace is bracketed and holds one exchange after one data/command edge. -/
def Obligations.StepKeepsBusBracketing : Prop :=
  ∀ s t : State, BusInv s → step s = .next t → BusInv t

/-- Every step keeps the panel state that goes with the position (10_state.md R103, 42_busy_wait.md R445). -/
def Obligations.StepKeepsPanelStateWithPosition : Prop :=
  ∀ s t : State, PanelInv s → step s = .next t → PanelInv t

/-- Every step keeps the running request consistent: latched fields, position, frame words, counters (10_state.md
R114, R120, R122; 30_encoding.md R306). -/
def Obligations.StepKeepsRequestConsistent : Prop :=
  ∀ s t : State, s.cfg.Valid → RequestInv s → step s = .next t → RequestInv t

/-- Whatever the host does meanwhile, the frames sent since `Accept` are those of the position: the table in order with
nothing omitted or added, exactly `NBYTES` data frames (of `DISPLAY`, each of two recognised codes) between the
frame-write and the refresh frame, the sleep frames (41_initialization.md R422,
43_pixel_transmission.md R467, 44_power_down.md R490). -/
def Obligations.StepKeepsFramesSentInOrder : Prop :=
  ∀ s t : State, BusInv s → RequestInv s → SentInv s → step s = .next t → SentInv t

/-- A request that ends with `ERR_ILLEGAL`, `ERR_SEQUENCE`, `ERR_LENGTH` or `ERR_COLOR` emits no line, delay or
exchange event between its `Accept` and its `Done`, and every step keeps the invariant that shows it (45_request_port.md
R512). -/
def Obligations.RejectedRequestEmitsNoBusEvent : Prop :=
  ∀ s t : State, QuietInv s → PanelInv s → step s = .next t →
    QuietInv t ∧
    ∀ code, code = .errIllegal ∨ code = .errSequence ∨ code = .errLength ∨ code = .errColor →
      t.trace = s.trace ++ [.done code] → quietSince s.trace = true

/-- Host memory keeps its canonical form, and only the host changes it (20_memory.md R205). The form is the model's
own (log 7). -/
def Obligations.StepKeepsMemoryCanonical : Prop :=
  ∀ s t : State, Memory.wf s.mem → step s = .next t →
    Memory.wf t.mem ∧ (s.turn = .block → t.mem = s.mem)

/-- A byte of canonical memory reads as last stored, every other address as before, and a withdrawn address answers
nothing. The form is the model's own (log 7; 20_memory.md R205, R208). -/
def Obligations.MemoryReadsWhatWasStored : Prop :=
  ∀ (m : List Host.Cell) (a b : Nat) (v : Byte), Memory.wf m →
    Memory.read (Memory.write m a v) b = (if b = a then some v else Memory.read m b) ∧
    Memory.read (Memory.erase m a) b = (if b = a then none else Memory.read m b)

/-- No event is removed or reordered, a step appends at most one, and a step of a running block appends exactly one
(10_state.md R140, R121). -/
def Obligations.TraceOnlyGrowsOneEventAStep : Prop :=
  ∀ s t : State, step s = .next t →
    (∃ es, es.length ≤ 1 ∧ t.trace = s.trace ++ es) ∧
    (s.turn = .block → s.seq ≠ .ready → ∃ e, t.trace = s.trace ++ [e])

/-- Every delay in the trace lasts at least its minimum (40_bus_transport.md R401). -/
def Obligations.StepKeepsDelaysLongEnough : Prop :=
  ∀ s t : State, s.trace.all (Event.longEnough s.cfg) = true → step s = .next t →
    t.trace.all (Event.longEnough t.cfg) = true

/-! ### What a step writes, and what it leaves alone -/

/-- The frame of every instruction: the host registers, the accepted word and its operands, `OVERRUN`, the
configuration, every byte of host memory, the host, the schedule and a recorded refusal are as before (10_state.md
R114, R124; 20_memory.md R205; 45_request_port.md R508; 60_exceptions.md R607). What `exec` does at a point of `SEQ`
that is not the instruction's own is the model's choice (log 14). -/
def Obligations.InstrLeavesHostSideUnchanged : Prop :=
  ∀ (i : Instr) (s t : State), exec i s = .next t →
    BlockFrame s t ∧ ∀ a, Memory.read t.mem a = Memory.read s.mem a

/-- The frame of the lines: `CMD` and `DATA` never write `RST_N`, nor do `FILL`, `DISPLAY` and `SLEEP`; `INIT` at its
own points never writes `CS_N` or `DC`; an illegal word writes no line (40_bus_transport.md R410, 41_initialization.md
R420). What `exec` does at a point of `SEQ` that is not the instruction's own is the model's choice (log 14). -/
def Obligations.InstrWritesOnlyItsOwnLines : Prop :=
  ∀ (i : Instr) (s t : State), exec i s = .next t →
    (i ≠ .init → t.pins.rstN = s.pins.rstN) ∧
    (i = .init → t.pins.csN = s.pins.csN ∧ t.pins.dc = s.pins.dc) ∧
    (requestOf i = none → (∀ b, i ≠ .cmd b ∧ i ≠ .data b) → t.pins = s.pins)

/-- The frame of the counters and the result: `CMD` and `DATA` leave `RESULT` as it is; only `FILL` and `DISPLAY`
frames and the reads of `DISPLAY` move `K`, so `INIT`, `SLEEP` and the illegal words leave it; `PSTATE` is left by an
illegal word; no instruction but `DISPLAY` records a fault (40_bus_transport.md R404, R405; 45_request_port.md R504,
60_exceptions.md R607). What `exec` does at a point of `SEQ` that is not the instruction's own is the model's choice
(log 14). -/
def Obligations.InstrLeavesResultAndCountersAlone : Prop :=
  ∀ (i : Instr) (s t : State), exec i s = .next t →
    (∀ b, i = .cmd b ∨ i = .data b → t.result = s.result) ∧
    (i = .init ∨ i = .sleep ∨ (∃ n, i = .fill n) ∨ (requestOf i = none ∧ ∀ b, i ≠ .cmd b ∧ i ≠ .data b) →
      t.k = s.k) ∧
    (requestOf i = none → (∀ b, i ≠ .cmd b ∧ i ≠ .data b) → t.pstate = s.pstate ∧ t.polls = s.polls ∧ t.env = s.env) ∧
    (i ≠ .display → t.fault = s.fault)

/-- The transition relation of `PSTATE`: a step that changes it is one of the rows of R103, and where a wait completes
its sample was not busy, where it times out its sample was busy (10_state.md R103, 42_busy_wait.md R441). That the
dispatched request is told by `REQ_SHADOW` is the model's choice (log 30). -/
def Obligations.PanelStateChangesOnlyByTheTable : Prop :=
  ∀ s t : State, PanelInv s → step s = .next t → t.pstate ≠ s.pstate →
    (t.pstate = .uninitialized ∧ (∃ r, s.seq = .run (.dispatch r)) ∧ decodeReq s.reqShadow = .init) ∨
    (s.pstate = .uninitialized ∧ t.pstate = .awake ∧ s.seq = .run (.wait .init .sample) ∧
      s.env.nextBusy ≠ s.cfg.busyActiveLevel.powerOn) ∨
    ((s.pstate = .awake ∨ s.pstate = .idle) ∧ t.pstate = .refreshing ∧
      ∃ w, s.seq = .run (.frame (.fill .refresh) w .deselect) ∨ s.seq = .run (.frame (.display .refresh) w .deselect)) ∨
    (s.pstate = .refreshing ∧ t.pstate = .idle ∧
      (s.seq = .run (.wait .fill .sample) ∨ s.seq = .run (.wait .display .sample)) ∧
      s.env.nextBusy ≠ s.cfg.busyActiveLevel.refresh) ∨
    ((s.pstate = .awake ∨ s.pstate = .idle) ∧ t.pstate = .asleep ∧
      ∃ w, s.seq = .run (.frame (.sleep .checkCode) w .deselect)) ∨
    (s.pstate ≠ .asleep ∧ t.pstate = .uninitialized ∧
      ∃ r, s.seq = .run (.wait r .sample) ∧ s.env.nextBusy = s.cfg.busyActiveLevel.get (siteOf r) ∧
        timedOut s.cfg (s.polls + 1) = true)

/-- No step of the host writes `PSTATE`, `RESULT`, a line, a counter or the configuration, whatever it accesses
(10_state.md R102, R110; 45_request_port.md R509). -/
def Obligations.HostStepLeavesTheBlockAlone : Prop :=
  ∀ s t : State, hostStep s = .next t →
    t.pstate = s.pstate ∧ t.result = s.result ∧ t.pins = s.pins ∧ t.k = s.k ∧ t.polls = s.polls ∧ t.cfg = s.cfg ∧
    t.fault = s.fault ∧ (s.seq ≠ .ready → t.seq = s.seq ∧ t.latched = s.latched ∧ t.reqShadow = s.reqShadow ∧
      t.trace = s.trace)

/-- `RESULT` is written only in the step that ends a request, which emits `Done` with the same code and makes the block
`Ready` (10_state.md R110). -/
def Obligations.ResultIsWrittenOnlyAtTheEnd : Prop :=
  ∀ s t : State, step s = .next t →
    t.result = s.result ∧ (s.seq ≠ .ready → t.seq ≠ .ready) ∨
    s.seq ≠ .ready ∧ t.seq = .ready ∧ t.trace = s.trace ++ [.done t.result]

/-- `OVERRUN` is set only by a `REQ` write while the block runs, and cleared only by an accepted one (10_state.md
R113). -/
def Obligations.OverrunFollowsRequestWrites : Prop :=
  ∀ s t : State, step s = .next t →
    (s.overrun = false → t.overrun = true →
      s.turn = .host ∧ s.seq ≠ .ready ∧ ∃ w rest, s.host.script = .write 4 s.cfg.regBase w :: rest) ∧
    (s.overrun = true → t.overrun = false →
      s.turn = .host ∧ s.seq = .ready ∧ ∃ w rest, s.host.script = .write 4 s.cfg.regBase w :: rest)

/-! ### Whole requests -/

/-- `INIT` run to its end: the reset pulse, every frame of `INIT_TABLE` in order and the power-on frame, the wait, and
`Done(OK)`, with the panel Awake; `n` is the number of busy samples, below the bound if there is one
(41_initialization.md R421 to R424, 42_busy_wait.md R441, R446). That `POLLS` is still `n` at `Ready` is the model's
reading (log 12, DEDUCED): 10_state.md R122 leaves it any value there. The number of turns counts the exit as one, the
model's reading (log 17, DEDUCED). -/
def Obligations.InitSendsTheTableAndEndsAwake : Prop :=
  ∀ (s : State) (n : Nat) (v : Level) (rest : List Level),
    s.seq = .run (.dispatch (some .init)) → decodeReq s.reqShadow = .init → s.pstate ≠ .refreshing →
    s.unrecorded → s.env.busy = List.replicate n s.cfg.busyActiveLevel.powerOn ++ v :: rest →
    v ≠ s.cfg.busyActiveLevel.powerOn → timedOut s.cfg n = false →
    s.blockTurns (5 * (initFrames s.cfg).length + 2 * n + 6) →
    ∃ t new, Host.Core.run Sys2Proof.core (5 * (initFrames s.cfg).length + 2 * n + 6) s = .next t ∧
      t.trace = s.trace ++ new ∧
      new.map Event.shape = resetEvents ++ (initFrames s.cfg).flatMap frameEvents ++
        busyEvents s.cfg.busyActiveLevel.powerOn n ++ [.poll v, .done .ok] ∧
      t.seq = .ready ∧ t.result = .ok ∧ t.pstate = .awake ∧ t.polls = n ∧ t.pins = ⟨1, 0, 1⟩ ∧
      t.bufBase = s.bufBase ∧ t.bufLen = s.bufLen ∧ t.overrun = s.overrun ∧ t.mem = s.mem ∧ t.unrecorded

/-- `FILL` run to its end: the frame-write frame, exactly `NBYTES` data frames of `FILLBYTE(n)`, the refresh frame,
the wait, and `Done(OK)`, with the panel Idle (43_pixel_transmission.md R465, R467). That `POLLS` is still `n` at
`Ready` is the model's reading (log 12, DEDUCED): 10_state.md R122 leaves it any value there. The number of turns
counts the exit as one, the model's reading (log 17, DEDUCED). -/
def Obligations.FillSendsTheColourAndEndsIdle : Prop :=
  ∀ (s : State) (c : Nibble) (n : Nat) (v : Level) (rest : List Level),
    s.seq = .run (.dispatch (some .fill)) → decodeReq s.reqShadow = .fill c → s.latched.color = c →
    s.pstate = .awake ∨ s.pstate = .idle → (∃ x : Color, s.cfg.nibble.get x = c) →
    s.unrecorded → s.env.busy = List.replicate n s.cfg.busyActiveLevel.refresh ++ v :: rest →
    v ≠ s.cfg.busyActiveLevel.refresh → timedOut s.cfg n = false →
    s.blockTurns (5 * s.cfg.nbytes + 2 * n + 12) →
    ∃ t new, Host.Core.run Sys2Proof.core (5 * s.cfg.nbytes + 2 * n + 12) s = .next t ∧
      t.trace = s.trace ++ new ∧
      new.map Event.shape = frameEvents (cmdWord s.cfg.cmdFrameWrite) ++
        (List.replicate s.cfg.nbytes (dataWord (fillByte c))).flatMap frameEvents ++
        frameEvents (cmdWord s.cfg.cmdRefresh) ++
        busyEvents s.cfg.busyActiveLevel.refresh n ++ [.poll v, .done .ok] ∧
      t.seq = .ready ∧ t.result = .ok ∧ t.pstate = .idle ∧ t.polls = n ∧ t.pins = ⟨1, 0, s.pins.rstN⟩ ∧
      t.bufBase = s.bufBase ∧ t.bufLen = s.bufLen ∧ t.overrun = s.overrun ∧ t.mem = s.mem ∧ t.unrecorded

/-- `DISPLAY` of a valid buffer run to its end: the reads of `VALIDATE` in ascending order, the frame-write frame, for
each pair its two reads and one data frame with the first pixel high, the refresh frame, the wait, and `Done(OK)`,
with the panel Idle (43_pixel_transmission.md R464, R466 to R468; 20_memory.md R206, R207). That `POLLS` is still `n`
at `Ready` is the model's reading (log 12, DEDUCED): 10_state.md R122 leaves it any value there. The number of turns
counts the exit as one, the model's reading (log 17, DEDUCED). -/
def Obligations.DisplaySendsThePackedBufferAndEndsIdle : Prop :=
  ∀ (s : State) (px : Nat → Byte) (nib : Nat → Nibble) (n : Nat) (v : Level) (rest : List Level),
    s.cfg.npix % 2 = 0 →
    s.seq = .run (.dispatch (some .display)) → decodeReq s.reqShadow = .display →
    s.pstate = .awake ∨ s.pstate = .idle → s.latched.len.toNat = s.cfg.npix →
    (∀ i, i < s.cfg.npix →
      Memory.read s.mem (bufferAddr s.latched.base i).toNat = some (px i) ∧ encode8 s.cfg (px i) = some (nib i)) →
    s.unrecorded → s.env.busy = List.replicate n s.cfg.busyActiveLevel.refresh ++ v :: rest →
    v ≠ s.cfg.busyActiveLevel.refresh → timedOut s.cfg n = false →
    s.blockTurns (s.cfg.npix + 7 * s.cfg.nbytes + 2 * n + 12) →
    ∃ t new, Host.Core.run Sys2Proof.core (s.cfg.npix + 7 * s.cfg.nbytes + 2 * n + 12) s = .next t ∧
      t.trace = s.trace ++ new ∧
      new.map Event.shape =
        (List.range s.cfg.npix).map (fun i => .memRd (bufferAddr s.latched.base i) (px i)) ++
        frameEvents (cmdWord s.cfg.cmdFrameWrite) ++
        (List.range s.cfg.nbytes).flatMap (fun k =>
          [.memRd (bufferAddr s.latched.base (2 * k)) (px (2 * k)),
            .memRd (bufferAddr s.latched.base (2 * k + 1)) (px (2 * k + 1))] ++
          frameEvents (dataWord (pack (nib (2 * k)) (nib (2 * k + 1))))) ++
        frameEvents (cmdWord s.cfg.cmdRefresh) ++
        busyEvents s.cfg.busyActiveLevel.refresh n ++ [.poll v, .done .ok] ∧
      t.seq = .ready ∧ t.result = .ok ∧ t.pstate = .idle ∧ t.polls = n ∧ t.pins = ⟨1, 0, s.pins.rstN⟩ ∧
      t.bufBase = s.bufBase ∧ t.bufLen = s.bufLen ∧ t.overrun = s.overrun ∧ t.mem = s.mem ∧ t.unrecorded

/-- `SLEEP` run to its end: the deep-sleep frame, the wait, the confirmation frame with its check code, and
`Done(OK)`, with the panel Asleep; `BUF_BASE`, `BUF_LEN` and `OVERRUN` are kept from dispatch on (44_power_down.md
R490, 60_exceptions.md R618). That `RESULT` takes `OK`, where R618 has it unchanged, is the model's choice (log 29).
That `POLLS` is still `n` and `K` is kept at `Ready` is the model's reading (log 12, DEDUCED): 10_state.md R122 leaves
both any value there. The number of turns counts the exit as one, the model's reading (log 17, DEDUCED). -/
def Obligations.SleepSendsTheCheckCodeAndEndsAsleep : Prop :=
  ∀ (s : State) (n : Nat) (v : Level) (rest : List Level),
    s.seq = .run (.dispatch (some .sleep)) → decodeReq s.reqShadow = .sleep →
    s.pstate = .awake ∨ s.pstate = .idle →
    s.unrecorded → s.env.busy = List.replicate n s.cfg.busyActiveLevel.sleep ++ v :: rest →
    v ≠ s.cfg.busyActiveLevel.sleep → timedOut s.cfg n = false →
    s.blockTurns (2 * n + 17) →
    ∃ t new, Host.Core.run Sys2Proof.core (2 * n + 17) s = .next t ∧
      t.trace = s.trace ++ new ∧
      new.map Event.shape = frameEvents (cmdWord s.cfg.cmdDeepSleep) ++
        busyEvents s.cfg.busyActiveLevel.sleep n ++ [.poll v] ++
        frameEvents (cmdWord s.cfg.cmdSleepConfirm) ++ frameEvents (dataWord s.cfg.sleepCheckCode) ++ [.done .ok] ∧
      t.seq = .ready ∧ t.result = .ok ∧ t.pstate = .asleep ∧ t.polls = n ∧ t.pins = ⟨1, 1, s.pins.rstN⟩ ∧
      t.bufBase = s.bufBase ∧ t.bufLen = s.bufLen ∧ t.overrun = s.overrun ∧ t.mem = s.mem ∧ t.unrecorded ∧ t.k = s.k

/-- With `BUSY_TIMEOUT = Some(m + 1)`, a wait that sees `m + 1` busy samples ends with `ERR_TIMEOUT`, the panel
Uninitialized, and no further frame (42_busy_wait.md R441, R447; 60_exceptions.md R604). That `POLLS` is still `m + 1`
at `Ready` is the model's reading (log 12, DEDUCED, unsafe): 10_state.md R122 leaves it any value there. The number of
turns counts the exit as one, the model's reading (log 17, DEDUCED). -/
def Obligations.BoundedWaitEndsWithErrTimeout : Prop :=
  ∀ (s : State) (r : Request) (m : Nat) (rest : List Level),
    s.seq = .run (.wait r .sample) → s.polls = 0 → s.unrecorded → s.cfg.busyTimeout = some (m + 1) →
    s.env.busy = List.replicate (m + 1) (s.cfg.busyActiveLevel.get (siteOf r)) ++ rest →
    s.blockTurns (2 * m + 2) →
    ∃ t new, Host.Core.run Sys2Proof.core (2 * m + 2) s = .next t ∧
      t.trace = s.trace ++ new ∧
      new.map Event.shape = busyEvents (s.cfg.busyActiveLevel.get (siteOf r)) m ++
        [.poll (s.cfg.busyActiveLevel.get (siteOf r)), .done .errTimeout] ∧
      t.seq = .ready ∧ t.result = .errTimeout ∧ t.pstate = .uninitialized ∧ t.polls = m + 1 ∧ t.pins = s.pins ∧
      t.unrecorded

/-- With `BUSY_TIMEOUT = None`, a wait on a panel that stays busy never ends: after any number of busy samples the block
is still in the wait, not ready (42_busy_wait.md R442). -/
def Obligations.UnboundedWaitGoesOnForever : Prop :=
  ∀ (s : State) (r : Request) (n : Nat) (rest : List Level),
    s.seq = .run (.wait r .sample) → s.unrecorded → s.cfg.busyTimeout = none →
    s.env.busy = List.replicate n (s.cfg.busyActiveLevel.get (siteOf r)) ++ rest →
    s.blockTurns (2 * n) →
    ∃ t new, Host.Core.run Sys2Proof.core (2 * n) s = .next t ∧
      t.trace = s.trace ++ new ∧
      new.map Event.shape = busyEvents (s.cfg.busyActiveLevel.get (siteOf r)) n ∧
      t.seq = .run (.wait r .sample) ∧ t.ready = false ∧ t.polls = s.polls + n ∧ t.pstate = s.pstate ∧
      t.result = s.result ∧ t.unrecorded

/-- `DISPLAY` of a buffer whose first unrecognised byte is at index `j` reads bytes 0 to `j` and ends with
`ERR_COLOR`, with no bus event and the panel state, the lines and the registers as they were (43_pixel_transmission.md
R464, 60_exceptions.md R603(ii), R609, 45_request_port.md R512). The number of turns counts the exit as one, the
model's reading (log 17, DEDUCED). -/
def Obligations.UnrecognisedByteEndsWithErrColor : Prop :=
  ∀ (s : State) (px : Nat → Byte) (j : Nat),
    s.seq = .run (.dispatch (some .display)) → decodeReq s.reqShadow = .display →
    s.pstate = .awake ∨ s.pstate = .idle → s.latched.len.toNat = s.cfg.npix → j < s.cfg.npix →
    (∀ i, i ≤ j → Memory.read s.mem (bufferAddr s.latched.base i).toNat = some (px i)) →
    (∀ i, i < j → encode8 s.cfg (px i) ≠ none) → encode8 s.cfg (px j) = none →
    s.unrecorded → s.blockTurns (j + 2) →
    ∃ t, Host.Core.run Sys2Proof.core (j + 2) s = .next t ∧
      t.trace = s.trace ++ (List.range (j + 1)).map (fun i => .memRd (bufferAddr s.latched.base i) (px i)) ++
        [.done .errColor] ∧
      t.seq = .ready ∧ t.result = .errColor ∧ t.pstate = s.pstate ∧ t.pins = s.pins ∧ t.bufBase = s.bufBase ∧
      t.bufLen = s.bufLen ∧ t.overrun = s.overrun ∧ t.mem = s.mem ∧ t.unrecorded

/-- The two forms of the wait agree below the bound: a step of a wait does the same with `Some(m)` as with `None` while the
busy samples, one taken in this step included, number fewer than `m`: the poll delay and a not-busy sample with `POLLS`
up to `m - 1`, a busy sample with `POLLS` up to `m - 2` (42_busy_wait.md R446). -/
def Obligations.TimeoutFormsAgreeBelowTheBound : Prop :=
  ∀ (s : State) (i : Instr) (r : Request) (p : WaitPoint) (m : Nat),
    requestOf i = some r → s.seq = .run (.wait r p) → s.polls < m →
    (p = .sample → s.env.nextBusy = s.cfg.busyActiveLevel.get (siteOf r) → s.polls + 1 < m) →
    ∃ t : State, exec i { s with cfg := { s.cfg with busyTimeout := some m } } = .next { t with
        cfg := { s.cfg with busyTimeout := some m } } ∧
      exec i { s with cfg := { s.cfg with busyTimeout := none } } = .next { t with
        cfg := { s.cfg with busyTimeout := none } }

/-- What `INIT` does depends on no host register, no latched operand and no byte of host memory: from two states that
agree on the rest, its step gives the same events and the same rest (41_initialization.md R425). What `exec` does at a
point of `SEQ` that is not the instruction's own is the model's choice (log 14). -/
def Obligations.InitReadsNoHostOperand : Prop :=
  ∀ (s : State) (base len : Word) (l : Latched) (m : List Host.Cell),
    ∃ t : State, exec .init s = .next t ∧
      exec .init { s with bufBase := base, bufLen := len, latched := l, mem := m } =
        .next { t with bufBase := base, bufLen := len, latched := l, mem := m }
end

