-- ==== Sys2Proof/Laws/Encoding.lean ====
section
/-! SUPPORT. The fields of the encoded words: each field reads back as it was put in, and a word is its fields. -/

namespace Sys2Proof

theorem reqWord_op (op : BitVec 3) (r0 : BitVec 1) (c : Nibble) (r1 : BitVec 24) :
    (reqWord op r0 c r1).extractLsb' 0 3 = op := by
  apply BitVec.eq_of_getLsbD_eq
  intro i hi
  interval_cases i <;> simp [reqWord]

theorem reqWord_rsv0 (op : BitVec 3) (r0 : BitVec 1) (c : Nibble) (r1 : BitVec 24) :
    (reqWord op r0 c r1).extractLsb' 3 1 = r0 := by
  apply BitVec.eq_of_getLsbD_eq
  intro i hi
  interval_cases i
  simp [reqWord]

theorem reqWord_color (op : BitVec 3) (r0 : BitVec 1) (c : Nibble) (r1 : BitVec 24) :
    (reqWord op r0 c r1).extractLsb' 4 4 = c := by
  apply BitVec.eq_of_getLsbD_eq
  intro i hi
  interval_cases i <;> simp [reqWord]

theorem reqWord_rsv1 (op : BitVec 3) (r0 : BitVec 1) (c : Nibble) (r1 : BitVec 24) :
    (reqWord op r0 c r1).extractLsb' 8 24 = r1 := by
  apply BitVec.eq_of_getLsbD_eq
  intro i hi
  interval_cases i <;> simp [reqWord]

theorem reqWord_eta (w : Word) :
    reqWord (w.extractLsb' 0 3) (w.extractLsb' 3 1) (w.extractLsb' 4 4) (w.extractLsb' 8 24) = w := by
  apply BitVec.eq_of_getLsbD_eq
  intro i hi
  interval_cases i <;> simp [reqWord]

/-- A word is its four fields. -/
theorem word_eq_iff (w v : Word) :
    w = v ↔ w.extractLsb' 0 3 = v.extractLsb' 0 3 ∧ w.extractLsb' 3 1 = v.extractLsb' 3 1 ∧
      w.extractLsb' 4 4 = v.extractLsb' 4 4 ∧ w.extractLsb' 8 24 = v.extractLsb' 8 24 := by
  constructor
  · rintro rfl
    exact ⟨rfl, rfl, rfl, rfl⟩
  · rintro ⟨a, b, c, d⟩
    rw [← reqWord_eta w, ← reqWord_eta v, a, b, c, d]

theorem rsvWord_op (op : BitVec 3) (rest : BitVec 29) : (rsvWord op rest).extractLsb' 0 3 = op := by
  apply BitVec.eq_of_getLsbD_eq
  intro i hi
  interval_cases i <;> simp [rsvWord]

theorem rsvWord_rest (op : BitVec 3) (rest : BitVec 29) : (rsvWord op rest).extractLsb' 3 29 = rest := by
  apply BitVec.eq_of_getLsbD_eq
  intro i hi
  interval_cases i <;> simp [rsvWord]

theorem frameWord_dc (dc : Level) (b : Byte) : (frameWord dc b).extractLsb' 8 1 = dc := by
  apply BitVec.eq_of_getLsbD_eq
  intro i hi
  interval_cases i
  simp [frameWord]

theorem frameWord_byte (dc : Level) (b : Byte) : (frameWord dc b).extractLsb' 0 8 = b := by
  apply BitVec.eq_of_getLsbD_eq
  intro i hi
  interval_cases i <;> simp [frameWord]

theorem frameWord_eta (w : FrameWord) : frameWord (w.extractLsb' 8 1) (w.extractLsb' 0 8) = w := by
  apply BitVec.eq_of_getLsbD_eq
  intro i hi
  interval_cases i <;> simp [frameWord]

/-- The mask of `OP` keeps `OP`. -/
theorem and_seven (w : Word) : w &&& 0x00000007 = (w.extractLsb' 0 3).setWidth 32 := by
  apply BitVec.eq_of_getLsbD_eq
  intro i hi
  interval_cases i <;> simp

/-- The mask of `FILL` reads the fields that `FILL` fixes. -/
theorem fillMask_iff (w : Word) :
    w &&& 0xFFFFFF0F = 0x00000002 ↔
      w.extractLsb' 0 3 = 2 ∧ w.extractLsb' 3 1 = 0 ∧ w.extractLsb' 8 24 = 0 := by
  have key : w &&& 0xFFFFFF0F = reqWord (w.extractLsb' 0 3) (w.extractLsb' 3 1) 0 (w.extractLsb' 8 24) := by
    apply BitVec.eq_of_getLsbD_eq
    intro i hi
    interval_cases i <;> simp [reqWord]
  have two : (0x00000002 : Word) = reqWord 2 0 0 0 := by decide
  rw [key, two, word_eq_iff]
  simp only [reqWord_op, reqWord_rsv0, reqWord_color, reqWord_rsv1, true_and]

end Sys2Proof
end

