-- ==== Sys2Proof/Laws/Memory.lean ====
section
/-! SUPPORT. Every operation on host memory keeps its canonical form, and the memory after reset has it. -/

namespace Sys2Proof.Machine

theorem Memory.wf_reset : Memory.wf State.reset.mem := ⟨.nil, by simp [State.reset]⟩

/-- The form of a list with a head: the head below the rest, and the rest in the form. -/
theorem Memory.wf_cons {c : Host.Cell} {m : List Host.Cell} :
    Memory.wf (c :: m) ↔ c.1 < 2 ^ 32 ∧ (∀ x ∈ m, c.1 < x.1) ∧ Memory.wf m := by
  simp only [Memory.wf, List.pairwise_cons, List.forall_mem_cons]
  tauto

/-- A cell of memory after a store is the stored one or an old one. -/
theorem Memory.mem_write {m : List Host.Cell} {a : Nat} {v : Byte} {x : Host.Cell} (h : x ∈ Memory.write m a v) :
    x.1 = a ∨ x ∈ m := by
  induction m with
  | nil => simp only [Memory.write, List.mem_singleton] at h; exact .inl (by rw [h])
  | cons c m ih =>
    simp only [Memory.write] at h
    split at h
    · rcases List.mem_cons.1 h with rfl | h
      · exact .inl rfl
      · exact .inr h
    · split at h
      · rcases List.mem_cons.1 h with rfl | h
        · exact .inl rfl
        · exact .inr (List.mem_cons_of_mem _ h)
      · rcases List.mem_cons.1 h with rfl | h
        · exact .inr List.mem_cons_self
        · exact (ih h).imp_right (List.mem_cons_of_mem _)

/-- A store at a 32-bit address keeps the form. -/
theorem Memory.wf_write {m : List Host.Cell} (a : Word) (v : Byte) (h : Memory.wf m) :
    Memory.wf (Memory.write m a.toNat v) := by
  have ha := a.isLt
  induction m with
  | nil => exact Memory.wf_cons.2 ⟨ha, by simp, .nil, by simp⟩
  | cons c m ih =>
    obtain ⟨hc, hm, hw⟩ := Memory.wf_cons.1 h
    obtain ⟨b, u⟩ := c
    dsimp only at hc hm
    simp only [Memory.write]
    split
    · rename_i hlt
      refine Memory.wf_cons.2 ⟨ha, fun x hx => ?_, h⟩
      rcases List.mem_cons.1 hx with rfl | hx
      · exact hlt
      · exact hlt.trans (hm x hx)
    · split
      · rename_i heq
        exact Memory.wf_cons.2 ⟨ha, fun x hx => by have := hm x hx; simp only; omega, hw⟩
      · rename_i hne1 hne2
        refine Memory.wf_cons.2 ⟨hc, fun x hx => ?_, ih hw⟩
        rcases Memory.mem_write hx with hx | hx
        · simp only; omega
        · exact hm x hx

/-- Withdrawing an address keeps the form. -/
theorem Memory.wf_erase {m : List Host.Cell} (a : Nat) (h : Memory.wf m) : Memory.wf (Memory.erase m a) :=
  ⟨h.1.filter _, fun x hx => h.2 x (List.mem_of_mem_filter hx)⟩

end Sys2Proof.Machine
end

