-- ==== Sys2Proof/Laws/State.lean ====
section
/-! SUPPORT. One lemma per field of State per named update, each true by rfl: no later proof unfolds an update. -/

namespace Sys2Proof.Machine.State

variable (s : State)

/-! ### `setPState` -/

@[simp] theorem setPState_pstate (p : PanelState) : (s.setPState p).pstate = p := rfl
@[simp] theorem setPState_seq (p : PanelState) : (s.setPState p).seq = s.seq := rfl
@[simp] theorem setPState_reqShadow (p : PanelState) : (s.setPState p).reqShadow = s.reqShadow := rfl
@[simp] theorem setPState_bufBase (p : PanelState) : (s.setPState p).bufBase = s.bufBase := rfl
@[simp] theorem setPState_bufLen (p : PanelState) : (s.setPState p).bufLen = s.bufLen := rfl
@[simp] theorem setPState_result (p : PanelState) : (s.setPState p).result = s.result := rfl
@[simp] theorem setPState_overrun (p : PanelState) : (s.setPState p).overrun = s.overrun := rfl
@[simp] theorem setPState_latched (p : PanelState) : (s.setPState p).latched = s.latched := rfl
@[simp] theorem setPState_k (p : PanelState) : (s.setPState p).k = s.k := rfl
@[simp] theorem setPState_polls (p : PanelState) : (s.setPState p).polls = s.polls := rfl
@[simp] theorem setPState_pins (p : PanelState) : (s.setPState p).pins = s.pins := rfl
@[simp] theorem setPState_trace (p : PanelState) : (s.setPState p).trace = s.trace := rfl
@[simp] theorem setPState_cfg (p : PanelState) : (s.setPState p).cfg = s.cfg := rfl
@[simp] theorem setPState_mem (p : PanelState) : (s.setPState p).mem = s.mem := rfl
@[simp] theorem setPState_env (p : PanelState) : (s.setPState p).env = s.env := rfl
@[simp] theorem setPState_host (p : PanelState) : (s.setPState p).host = s.host := rfl
@[simp] theorem setPState_sched (p : PanelState) : (s.setPState p).sched = s.sched := rfl
@[simp] theorem setPState_fault (p : PanelState) : (s.setPState p).fault = s.fault := rfl
@[simp] theorem setPState_refusal (p : PanelState) : (s.setPState p).refusal = s.refusal := rfl

/-! ### `setSeq` -/

@[simp] theorem setSeq_pstate (q : Seq) : (s.setSeq q).pstate = s.pstate := rfl
@[simp] theorem setSeq_seq (q : Seq) : (s.setSeq q).seq = q := rfl
@[simp] theorem setSeq_reqShadow (q : Seq) : (s.setSeq q).reqShadow = s.reqShadow := rfl
@[simp] theorem setSeq_bufBase (q : Seq) : (s.setSeq q).bufBase = s.bufBase := rfl
@[simp] theorem setSeq_bufLen (q : Seq) : (s.setSeq q).bufLen = s.bufLen := rfl
@[simp] theorem setSeq_result (q : Seq) : (s.setSeq q).result = s.result := rfl
@[simp] theorem setSeq_overrun (q : Seq) : (s.setSeq q).overrun = s.overrun := rfl
@[simp] theorem setSeq_latched (q : Seq) : (s.setSeq q).latched = s.latched := rfl
@[simp] theorem setSeq_k (q : Seq) : (s.setSeq q).k = s.k := rfl
@[simp] theorem setSeq_polls (q : Seq) : (s.setSeq q).polls = s.polls := rfl
@[simp] theorem setSeq_pins (q : Seq) : (s.setSeq q).pins = s.pins := rfl
@[simp] theorem setSeq_trace (q : Seq) : (s.setSeq q).trace = s.trace := rfl
@[simp] theorem setSeq_cfg (q : Seq) : (s.setSeq q).cfg = s.cfg := rfl
@[simp] theorem setSeq_mem (q : Seq) : (s.setSeq q).mem = s.mem := rfl
@[simp] theorem setSeq_env (q : Seq) : (s.setSeq q).env = s.env := rfl
@[simp] theorem setSeq_host (q : Seq) : (s.setSeq q).host = s.host := rfl
@[simp] theorem setSeq_sched (q : Seq) : (s.setSeq q).sched = s.sched := rfl
@[simp] theorem setSeq_fault (q : Seq) : (s.setSeq q).fault = s.fault := rfl
@[simp] theorem setSeq_refusal (q : Seq) : (s.setSeq q).refusal = s.refusal := rfl

/-! ### `setReqShadow` -/

@[simp] theorem setReqShadow_pstate (w : Word) : (s.setReqShadow w).pstate = s.pstate := rfl
@[simp] theorem setReqShadow_seq (w : Word) : (s.setReqShadow w).seq = s.seq := rfl
@[simp] theorem setReqShadow_reqShadow (w : Word) : (s.setReqShadow w).reqShadow = w := rfl
@[simp] theorem setReqShadow_bufBase (w : Word) : (s.setReqShadow w).bufBase = s.bufBase := rfl
@[simp] theorem setReqShadow_bufLen (w : Word) : (s.setReqShadow w).bufLen = s.bufLen := rfl
@[simp] theorem setReqShadow_result (w : Word) : (s.setReqShadow w).result = s.result := rfl
@[simp] theorem setReqShadow_overrun (w : Word) : (s.setReqShadow w).overrun = s.overrun := rfl
@[simp] theorem setReqShadow_latched (w : Word) : (s.setReqShadow w).latched = s.latched := rfl
@[simp] theorem setReqShadow_k (w : Word) : (s.setReqShadow w).k = s.k := rfl
@[simp] theorem setReqShadow_polls (w : Word) : (s.setReqShadow w).polls = s.polls := rfl
@[simp] theorem setReqShadow_pins (w : Word) : (s.setReqShadow w).pins = s.pins := rfl
@[simp] theorem setReqShadow_trace (w : Word) : (s.setReqShadow w).trace = s.trace := rfl
@[simp] theorem setReqShadow_cfg (w : Word) : (s.setReqShadow w).cfg = s.cfg := rfl
@[simp] theorem setReqShadow_mem (w : Word) : (s.setReqShadow w).mem = s.mem := rfl
@[simp] theorem setReqShadow_env (w : Word) : (s.setReqShadow w).env = s.env := rfl
@[simp] theorem setReqShadow_host (w : Word) : (s.setReqShadow w).host = s.host := rfl
@[simp] theorem setReqShadow_sched (w : Word) : (s.setReqShadow w).sched = s.sched := rfl
@[simp] theorem setReqShadow_fault (w : Word) : (s.setReqShadow w).fault = s.fault := rfl
@[simp] theorem setReqShadow_refusal (w : Word) : (s.setReqShadow w).refusal = s.refusal := rfl

/-! ### `setBufBase` -/

@[simp] theorem setBufBase_pstate (w : Word) : (s.setBufBase w).pstate = s.pstate := rfl
@[simp] theorem setBufBase_seq (w : Word) : (s.setBufBase w).seq = s.seq := rfl
@[simp] theorem setBufBase_reqShadow (w : Word) : (s.setBufBase w).reqShadow = s.reqShadow := rfl
@[simp] theorem setBufBase_bufBase (w : Word) : (s.setBufBase w).bufBase = w := rfl
@[simp] theorem setBufBase_bufLen (w : Word) : (s.setBufBase w).bufLen = s.bufLen := rfl
@[simp] theorem setBufBase_result (w : Word) : (s.setBufBase w).result = s.result := rfl
@[simp] theorem setBufBase_overrun (w : Word) : (s.setBufBase w).overrun = s.overrun := rfl
@[simp] theorem setBufBase_latched (w : Word) : (s.setBufBase w).latched = s.latched := rfl
@[simp] theorem setBufBase_k (w : Word) : (s.setBufBase w).k = s.k := rfl
@[simp] theorem setBufBase_polls (w : Word) : (s.setBufBase w).polls = s.polls := rfl
@[simp] theorem setBufBase_pins (w : Word) : (s.setBufBase w).pins = s.pins := rfl
@[simp] theorem setBufBase_trace (w : Word) : (s.setBufBase w).trace = s.trace := rfl
@[simp] theorem setBufBase_cfg (w : Word) : (s.setBufBase w).cfg = s.cfg := rfl
@[simp] theorem setBufBase_mem (w : Word) : (s.setBufBase w).mem = s.mem := rfl
@[simp] theorem setBufBase_env (w : Word) : (s.setBufBase w).env = s.env := rfl
@[simp] theorem setBufBase_host (w : Word) : (s.setBufBase w).host = s.host := rfl
@[simp] theorem setBufBase_sched (w : Word) : (s.setBufBase w).sched = s.sched := rfl
@[simp] theorem setBufBase_fault (w : Word) : (s.setBufBase w).fault = s.fault := rfl
@[simp] theorem setBufBase_refusal (w : Word) : (s.setBufBase w).refusal = s.refusal := rfl

/-! ### `setBufLen` -/

@[simp] theorem setBufLen_pstate (w : Word) : (s.setBufLen w).pstate = s.pstate := rfl
@[simp] theorem setBufLen_seq (w : Word) : (s.setBufLen w).seq = s.seq := rfl
@[simp] theorem setBufLen_reqShadow (w : Word) : (s.setBufLen w).reqShadow = s.reqShadow := rfl
@[simp] theorem setBufLen_bufBase (w : Word) : (s.setBufLen w).bufBase = s.bufBase := rfl
@[simp] theorem setBufLen_bufLen (w : Word) : (s.setBufLen w).bufLen = w := rfl
@[simp] theorem setBufLen_result (w : Word) : (s.setBufLen w).result = s.result := rfl
@[simp] theorem setBufLen_overrun (w : Word) : (s.setBufLen w).overrun = s.overrun := rfl
@[simp] theorem setBufLen_latched (w : Word) : (s.setBufLen w).latched = s.latched := rfl
@[simp] theorem setBufLen_k (w : Word) : (s.setBufLen w).k = s.k := rfl
@[simp] theorem setBufLen_polls (w : Word) : (s.setBufLen w).polls = s.polls := rfl
@[simp] theorem setBufLen_pins (w : Word) : (s.setBufLen w).pins = s.pins := rfl
@[simp] theorem setBufLen_trace (w : Word) : (s.setBufLen w).trace = s.trace := rfl
@[simp] theorem setBufLen_cfg (w : Word) : (s.setBufLen w).cfg = s.cfg := rfl
@[simp] theorem setBufLen_mem (w : Word) : (s.setBufLen w).mem = s.mem := rfl
@[simp] theorem setBufLen_env (w : Word) : (s.setBufLen w).env = s.env := rfl
@[simp] theorem setBufLen_host (w : Word) : (s.setBufLen w).host = s.host := rfl
@[simp] theorem setBufLen_sched (w : Word) : (s.setBufLen w).sched = s.sched := rfl
@[simp] theorem setBufLen_fault (w : Word) : (s.setBufLen w).fault = s.fault := rfl
@[simp] theorem setBufLen_refusal (w : Word) : (s.setBufLen w).refusal = s.refusal := rfl

/-! ### `setResult` -/

@[simp] theorem setResult_pstate (r : Result) : (s.setResult r).pstate = s.pstate := rfl
@[simp] theorem setResult_seq (r : Result) : (s.setResult r).seq = s.seq := rfl
@[simp] theorem setResult_reqShadow (r : Result) : (s.setResult r).reqShadow = s.reqShadow := rfl
@[simp] theorem setResult_bufBase (r : Result) : (s.setResult r).bufBase = s.bufBase := rfl
@[simp] theorem setResult_bufLen (r : Result) : (s.setResult r).bufLen = s.bufLen := rfl
@[simp] theorem setResult_result (r : Result) : (s.setResult r).result = r := rfl
@[simp] theorem setResult_overrun (r : Result) : (s.setResult r).overrun = s.overrun := rfl
@[simp] theorem setResult_latched (r : Result) : (s.setResult r).latched = s.latched := rfl
@[simp] theorem setResult_k (r : Result) : (s.setResult r).k = s.k := rfl
@[simp] theorem setResult_polls (r : Result) : (s.setResult r).polls = s.polls := rfl
@[simp] theorem setResult_pins (r : Result) : (s.setResult r).pins = s.pins := rfl
@[simp] theorem setResult_trace (r : Result) : (s.setResult r).trace = s.trace := rfl
@[simp] theorem setResult_cfg (r : Result) : (s.setResult r).cfg = s.cfg := rfl
@[simp] theorem setResult_mem (r : Result) : (s.setResult r).mem = s.mem := rfl
@[simp] theorem setResult_env (r : Result) : (s.setResult r).env = s.env := rfl
@[simp] theorem setResult_host (r : Result) : (s.setResult r).host = s.host := rfl
@[simp] theorem setResult_sched (r : Result) : (s.setResult r).sched = s.sched := rfl
@[simp] theorem setResult_fault (r : Result) : (s.setResult r).fault = s.fault := rfl
@[simp] theorem setResult_refusal (r : Result) : (s.setResult r).refusal = s.refusal := rfl

/-! ### `setOverrun` -/

@[simp] theorem setOverrun_pstate (b : Bool) : (s.setOverrun b).pstate = s.pstate := rfl
@[simp] theorem setOverrun_seq (b : Bool) : (s.setOverrun b).seq = s.seq := rfl
@[simp] theorem setOverrun_reqShadow (b : Bool) : (s.setOverrun b).reqShadow = s.reqShadow := rfl
@[simp] theorem setOverrun_bufBase (b : Bool) : (s.setOverrun b).bufBase = s.bufBase := rfl
@[simp] theorem setOverrun_bufLen (b : Bool) : (s.setOverrun b).bufLen = s.bufLen := rfl
@[simp] theorem setOverrun_result (b : Bool) : (s.setOverrun b).result = s.result := rfl
@[simp] theorem setOverrun_overrun (b : Bool) : (s.setOverrun b).overrun = b := rfl
@[simp] theorem setOverrun_latched (b : Bool) : (s.setOverrun b).latched = s.latched := rfl
@[simp] theorem setOverrun_k (b : Bool) : (s.setOverrun b).k = s.k := rfl
@[simp] theorem setOverrun_polls (b : Bool) : (s.setOverrun b).polls = s.polls := rfl
@[simp] theorem setOverrun_pins (b : Bool) : (s.setOverrun b).pins = s.pins := rfl
@[simp] theorem setOverrun_trace (b : Bool) : (s.setOverrun b).trace = s.trace := rfl
@[simp] theorem setOverrun_cfg (b : Bool) : (s.setOverrun b).cfg = s.cfg := rfl
@[simp] theorem setOverrun_mem (b : Bool) : (s.setOverrun b).mem = s.mem := rfl
@[simp] theorem setOverrun_env (b : Bool) : (s.setOverrun b).env = s.env := rfl
@[simp] theorem setOverrun_host (b : Bool) : (s.setOverrun b).host = s.host := rfl
@[simp] theorem setOverrun_sched (b : Bool) : (s.setOverrun b).sched = s.sched := rfl
@[simp] theorem setOverrun_fault (b : Bool) : (s.setOverrun b).fault = s.fault := rfl
@[simp] theorem setOverrun_refusal (b : Bool) : (s.setOverrun b).refusal = s.refusal := rfl

/-! ### `setLatched` -/

@[simp] theorem setLatched_pstate (l : Latched) : (s.setLatched l).pstate = s.pstate := rfl
@[simp] theorem setLatched_seq (l : Latched) : (s.setLatched l).seq = s.seq := rfl
@[simp] theorem setLatched_reqShadow (l : Latched) : (s.setLatched l).reqShadow = s.reqShadow := rfl
@[simp] theorem setLatched_bufBase (l : Latched) : (s.setLatched l).bufBase = s.bufBase := rfl
@[simp] theorem setLatched_bufLen (l : Latched) : (s.setLatched l).bufLen = s.bufLen := rfl
@[simp] theorem setLatched_result (l : Latched) : (s.setLatched l).result = s.result := rfl
@[simp] theorem setLatched_overrun (l : Latched) : (s.setLatched l).overrun = s.overrun := rfl
@[simp] theorem setLatched_latched (l : Latched) : (s.setLatched l).latched = l := rfl
@[simp] theorem setLatched_k (l : Latched) : (s.setLatched l).k = s.k := rfl
@[simp] theorem setLatched_polls (l : Latched) : (s.setLatched l).polls = s.polls := rfl
@[simp] theorem setLatched_pins (l : Latched) : (s.setLatched l).pins = s.pins := rfl
@[simp] theorem setLatched_trace (l : Latched) : (s.setLatched l).trace = s.trace := rfl
@[simp] theorem setLatched_cfg (l : Latched) : (s.setLatched l).cfg = s.cfg := rfl
@[simp] theorem setLatched_mem (l : Latched) : (s.setLatched l).mem = s.mem := rfl
@[simp] theorem setLatched_env (l : Latched) : (s.setLatched l).env = s.env := rfl
@[simp] theorem setLatched_host (l : Latched) : (s.setLatched l).host = s.host := rfl
@[simp] theorem setLatched_sched (l : Latched) : (s.setLatched l).sched = s.sched := rfl
@[simp] theorem setLatched_fault (l : Latched) : (s.setLatched l).fault = s.fault := rfl
@[simp] theorem setLatched_refusal (l : Latched) : (s.setLatched l).refusal = s.refusal := rfl

/-! ### `setK` -/

@[simp] theorem setK_pstate (n : Nat) : (s.setK n).pstate = s.pstate := rfl
@[simp] theorem setK_seq (n : Nat) : (s.setK n).seq = s.seq := rfl
@[simp] theorem setK_reqShadow (n : Nat) : (s.setK n).reqShadow = s.reqShadow := rfl
@[simp] theorem setK_bufBase (n : Nat) : (s.setK n).bufBase = s.bufBase := rfl
@[simp] theorem setK_bufLen (n : Nat) : (s.setK n).bufLen = s.bufLen := rfl
@[simp] theorem setK_result (n : Nat) : (s.setK n).result = s.result := rfl
@[simp] theorem setK_overrun (n : Nat) : (s.setK n).overrun = s.overrun := rfl
@[simp] theorem setK_latched (n : Nat) : (s.setK n).latched = s.latched := rfl
@[simp] theorem setK_k (n : Nat) : (s.setK n).k = n := rfl
@[simp] theorem setK_polls (n : Nat) : (s.setK n).polls = s.polls := rfl
@[simp] theorem setK_pins (n : Nat) : (s.setK n).pins = s.pins := rfl
@[simp] theorem setK_trace (n : Nat) : (s.setK n).trace = s.trace := rfl
@[simp] theorem setK_cfg (n : Nat) : (s.setK n).cfg = s.cfg := rfl
@[simp] theorem setK_mem (n : Nat) : (s.setK n).mem = s.mem := rfl
@[simp] theorem setK_env (n : Nat) : (s.setK n).env = s.env := rfl
@[simp] theorem setK_host (n : Nat) : (s.setK n).host = s.host := rfl
@[simp] theorem setK_sched (n : Nat) : (s.setK n).sched = s.sched := rfl
@[simp] theorem setK_fault (n : Nat) : (s.setK n).fault = s.fault := rfl
@[simp] theorem setK_refusal (n : Nat) : (s.setK n).refusal = s.refusal := rfl

/-! ### `setPolls` -/

@[simp] theorem setPolls_pstate (n : Nat) : (s.setPolls n).pstate = s.pstate := rfl
@[simp] theorem setPolls_seq (n : Nat) : (s.setPolls n).seq = s.seq := rfl
@[simp] theorem setPolls_reqShadow (n : Nat) : (s.setPolls n).reqShadow = s.reqShadow := rfl
@[simp] theorem setPolls_bufBase (n : Nat) : (s.setPolls n).bufBase = s.bufBase := rfl
@[simp] theorem setPolls_bufLen (n : Nat) : (s.setPolls n).bufLen = s.bufLen := rfl
@[simp] theorem setPolls_result (n : Nat) : (s.setPolls n).result = s.result := rfl
@[simp] theorem setPolls_overrun (n : Nat) : (s.setPolls n).overrun = s.overrun := rfl
@[simp] theorem setPolls_latched (n : Nat) : (s.setPolls n).latched = s.latched := rfl
@[simp] theorem setPolls_k (n : Nat) : (s.setPolls n).k = s.k := rfl
@[simp] theorem setPolls_polls (n : Nat) : (s.setPolls n).polls = n := rfl
@[simp] theorem setPolls_pins (n : Nat) : (s.setPolls n).pins = s.pins := rfl
@[simp] theorem setPolls_trace (n : Nat) : (s.setPolls n).trace = s.trace := rfl
@[simp] theorem setPolls_cfg (n : Nat) : (s.setPolls n).cfg = s.cfg := rfl
@[simp] theorem setPolls_mem (n : Nat) : (s.setPolls n).mem = s.mem := rfl
@[simp] theorem setPolls_env (n : Nat) : (s.setPolls n).env = s.env := rfl
@[simp] theorem setPolls_host (n : Nat) : (s.setPolls n).host = s.host := rfl
@[simp] theorem setPolls_sched (n : Nat) : (s.setPolls n).sched = s.sched := rfl
@[simp] theorem setPolls_fault (n : Nat) : (s.setPolls n).fault = s.fault := rfl
@[simp] theorem setPolls_refusal (n : Nat) : (s.setPolls n).refusal = s.refusal := rfl

/-! ### `setPins` -/

@[simp] theorem setPins_pstate (p : Pins) : (s.setPins p).pstate = s.pstate := rfl
@[simp] theorem setPins_seq (p : Pins) : (s.setPins p).seq = s.seq := rfl
@[simp] theorem setPins_reqShadow (p : Pins) : (s.setPins p).reqShadow = s.reqShadow := rfl
@[simp] theorem setPins_bufBase (p : Pins) : (s.setPins p).bufBase = s.bufBase := rfl
@[simp] theorem setPins_bufLen (p : Pins) : (s.setPins p).bufLen = s.bufLen := rfl
@[simp] theorem setPins_result (p : Pins) : (s.setPins p).result = s.result := rfl
@[simp] theorem setPins_overrun (p : Pins) : (s.setPins p).overrun = s.overrun := rfl
@[simp] theorem setPins_latched (p : Pins) : (s.setPins p).latched = s.latched := rfl
@[simp] theorem setPins_k (p : Pins) : (s.setPins p).k = s.k := rfl
@[simp] theorem setPins_polls (p : Pins) : (s.setPins p).polls = s.polls := rfl
@[simp] theorem setPins_pins (p : Pins) : (s.setPins p).pins = p := rfl
@[simp] theorem setPins_trace (p : Pins) : (s.setPins p).trace = s.trace := rfl
@[simp] theorem setPins_cfg (p : Pins) : (s.setPins p).cfg = s.cfg := rfl
@[simp] theorem setPins_mem (p : Pins) : (s.setPins p).mem = s.mem := rfl
@[simp] theorem setPins_env (p : Pins) : (s.setPins p).env = s.env := rfl
@[simp] theorem setPins_host (p : Pins) : (s.setPins p).host = s.host := rfl
@[simp] theorem setPins_sched (p : Pins) : (s.setPins p).sched = s.sched := rfl
@[simp] theorem setPins_fault (p : Pins) : (s.setPins p).fault = s.fault := rfl
@[simp] theorem setPins_refusal (p : Pins) : (s.setPins p).refusal = s.refusal := rfl

/-! ### `emit` -/

@[simp] theorem emit_pstate (e : Event) : (s.emit e).pstate = s.pstate := rfl
@[simp] theorem emit_seq (e : Event) : (s.emit e).seq = s.seq := rfl
@[simp] theorem emit_reqShadow (e : Event) : (s.emit e).reqShadow = s.reqShadow := rfl
@[simp] theorem emit_bufBase (e : Event) : (s.emit e).bufBase = s.bufBase := rfl
@[simp] theorem emit_bufLen (e : Event) : (s.emit e).bufLen = s.bufLen := rfl
@[simp] theorem emit_result (e : Event) : (s.emit e).result = s.result := rfl
@[simp] theorem emit_overrun (e : Event) : (s.emit e).overrun = s.overrun := rfl
@[simp] theorem emit_latched (e : Event) : (s.emit e).latched = s.latched := rfl
@[simp] theorem emit_k (e : Event) : (s.emit e).k = s.k := rfl
@[simp] theorem emit_polls (e : Event) : (s.emit e).polls = s.polls := rfl
@[simp] theorem emit_pins (e : Event) : (s.emit e).pins = s.pins := rfl
@[simp] theorem emit_trace (e : Event) : (s.emit e).trace = s.trace ++ [e] := rfl
@[simp] theorem emit_cfg (e : Event) : (s.emit e).cfg = s.cfg := rfl
@[simp] theorem emit_mem (e : Event) : (s.emit e).mem = s.mem := rfl
@[simp] theorem emit_env (e : Event) : (s.emit e).env = s.env := rfl
@[simp] theorem emit_host (e : Event) : (s.emit e).host = s.host := rfl
@[simp] theorem emit_sched (e : Event) : (s.emit e).sched = s.sched := rfl
@[simp] theorem emit_fault (e : Event) : (s.emit e).fault = s.fault := rfl
@[simp] theorem emit_refusal (e : Event) : (s.emit e).refusal = s.refusal := rfl

/-! ### `setMem` -/

@[simp] theorem setMem_pstate (m : List Host.Cell) : (s.setMem m).pstate = s.pstate := rfl
@[simp] theorem setMem_seq (m : List Host.Cell) : (s.setMem m).seq = s.seq := rfl
@[simp] theorem setMem_reqShadow (m : List Host.Cell) : (s.setMem m).reqShadow = s.reqShadow := rfl
@[simp] theorem setMem_bufBase (m : List Host.Cell) : (s.setMem m).bufBase = s.bufBase := rfl
@[simp] theorem setMem_bufLen (m : List Host.Cell) : (s.setMem m).bufLen = s.bufLen := rfl
@[simp] theorem setMem_result (m : List Host.Cell) : (s.setMem m).result = s.result := rfl
@[simp] theorem setMem_overrun (m : List Host.Cell) : (s.setMem m).overrun = s.overrun := rfl
@[simp] theorem setMem_latched (m : List Host.Cell) : (s.setMem m).latched = s.latched := rfl
@[simp] theorem setMem_k (m : List Host.Cell) : (s.setMem m).k = s.k := rfl
@[simp] theorem setMem_polls (m : List Host.Cell) : (s.setMem m).polls = s.polls := rfl
@[simp] theorem setMem_pins (m : List Host.Cell) : (s.setMem m).pins = s.pins := rfl
@[simp] theorem setMem_trace (m : List Host.Cell) : (s.setMem m).trace = s.trace := rfl
@[simp] theorem setMem_cfg (m : List Host.Cell) : (s.setMem m).cfg = s.cfg := rfl
@[simp] theorem setMem_mem (m : List Host.Cell) : (s.setMem m).mem = m := rfl
@[simp] theorem setMem_env (m : List Host.Cell) : (s.setMem m).env = s.env := rfl
@[simp] theorem setMem_host (m : List Host.Cell) : (s.setMem m).host = s.host := rfl
@[simp] theorem setMem_sched (m : List Host.Cell) : (s.setMem m).sched = s.sched := rfl
@[simp] theorem setMem_fault (m : List Host.Cell) : (s.setMem m).fault = s.fault := rfl
@[simp] theorem setMem_refusal (m : List Host.Cell) : (s.setMem m).refusal = s.refusal := rfl

/-! ### `setEnv` -/

@[simp] theorem setEnv_pstate (e : Env) : (s.setEnv e).pstate = s.pstate := rfl
@[simp] theorem setEnv_seq (e : Env) : (s.setEnv e).seq = s.seq := rfl
@[simp] theorem setEnv_reqShadow (e : Env) : (s.setEnv e).reqShadow = s.reqShadow := rfl
@[simp] theorem setEnv_bufBase (e : Env) : (s.setEnv e).bufBase = s.bufBase := rfl
@[simp] theorem setEnv_bufLen (e : Env) : (s.setEnv e).bufLen = s.bufLen := rfl
@[simp] theorem setEnv_result (e : Env) : (s.setEnv e).result = s.result := rfl
@[simp] theorem setEnv_overrun (e : Env) : (s.setEnv e).overrun = s.overrun := rfl
@[simp] theorem setEnv_latched (e : Env) : (s.setEnv e).latched = s.latched := rfl
@[simp] theorem setEnv_k (e : Env) : (s.setEnv e).k = s.k := rfl
@[simp] theorem setEnv_polls (e : Env) : (s.setEnv e).polls = s.polls := rfl
@[simp] theorem setEnv_pins (e : Env) : (s.setEnv e).pins = s.pins := rfl
@[simp] theorem setEnv_trace (e : Env) : (s.setEnv e).trace = s.trace := rfl
@[simp] theorem setEnv_cfg (e : Env) : (s.setEnv e).cfg = s.cfg := rfl
@[simp] theorem setEnv_mem (e : Env) : (s.setEnv e).mem = s.mem := rfl
@[simp] theorem setEnv_env (e : Env) : (s.setEnv e).env = e := rfl
@[simp] theorem setEnv_host (e : Env) : (s.setEnv e).host = s.host := rfl
@[simp] theorem setEnv_sched (e : Env) : (s.setEnv e).sched = s.sched := rfl
@[simp] theorem setEnv_fault (e : Env) : (s.setEnv e).fault = s.fault := rfl
@[simp] theorem setEnv_refusal (e : Env) : (s.setEnv e).refusal = s.refusal := rfl

/-! ### `setHost` -/

@[simp] theorem setHost_pstate (h : HostAgent) : (s.setHost h).pstate = s.pstate := rfl
@[simp] theorem setHost_seq (h : HostAgent) : (s.setHost h).seq = s.seq := rfl
@[simp] theorem setHost_reqShadow (h : HostAgent) : (s.setHost h).reqShadow = s.reqShadow := rfl
@[simp] theorem setHost_bufBase (h : HostAgent) : (s.setHost h).bufBase = s.bufBase := rfl
@[simp] theorem setHost_bufLen (h : HostAgent) : (s.setHost h).bufLen = s.bufLen := rfl
@[simp] theorem setHost_result (h : HostAgent) : (s.setHost h).result = s.result := rfl
@[simp] theorem setHost_overrun (h : HostAgent) : (s.setHost h).overrun = s.overrun := rfl
@[simp] theorem setHost_latched (h : HostAgent) : (s.setHost h).latched = s.latched := rfl
@[simp] theorem setHost_k (h : HostAgent) : (s.setHost h).k = s.k := rfl
@[simp] theorem setHost_polls (h : HostAgent) : (s.setHost h).polls = s.polls := rfl
@[simp] theorem setHost_pins (h : HostAgent) : (s.setHost h).pins = s.pins := rfl
@[simp] theorem setHost_trace (h : HostAgent) : (s.setHost h).trace = s.trace := rfl
@[simp] theorem setHost_cfg (h : HostAgent) : (s.setHost h).cfg = s.cfg := rfl
@[simp] theorem setHost_mem (h : HostAgent) : (s.setHost h).mem = s.mem := rfl
@[simp] theorem setHost_env (h : HostAgent) : (s.setHost h).env = s.env := rfl
@[simp] theorem setHost_host (h : HostAgent) : (s.setHost h).host = h := rfl
@[simp] theorem setHost_sched (h : HostAgent) : (s.setHost h).sched = s.sched := rfl
@[simp] theorem setHost_fault (h : HostAgent) : (s.setHost h).fault = s.fault := rfl
@[simp] theorem setHost_refusal (h : HostAgent) : (s.setHost h).refusal = s.refusal := rfl

/-! ### `setSched` -/

@[simp] theorem setSched_pstate (c : Sched) : (s.setSched c).pstate = s.pstate := rfl
@[simp] theorem setSched_seq (c : Sched) : (s.setSched c).seq = s.seq := rfl
@[simp] theorem setSched_reqShadow (c : Sched) : (s.setSched c).reqShadow = s.reqShadow := rfl
@[simp] theorem setSched_bufBase (c : Sched) : (s.setSched c).bufBase = s.bufBase := rfl
@[simp] theorem setSched_bufLen (c : Sched) : (s.setSched c).bufLen = s.bufLen := rfl
@[simp] theorem setSched_result (c : Sched) : (s.setSched c).result = s.result := rfl
@[simp] theorem setSched_overrun (c : Sched) : (s.setSched c).overrun = s.overrun := rfl
@[simp] theorem setSched_latched (c : Sched) : (s.setSched c).latched = s.latched := rfl
@[simp] theorem setSched_k (c : Sched) : (s.setSched c).k = s.k := rfl
@[simp] theorem setSched_polls (c : Sched) : (s.setSched c).polls = s.polls := rfl
@[simp] theorem setSched_pins (c : Sched) : (s.setSched c).pins = s.pins := rfl
@[simp] theorem setSched_trace (c : Sched) : (s.setSched c).trace = s.trace := rfl
@[simp] theorem setSched_cfg (c : Sched) : (s.setSched c).cfg = s.cfg := rfl
@[simp] theorem setSched_mem (c : Sched) : (s.setSched c).mem = s.mem := rfl
@[simp] theorem setSched_env (c : Sched) : (s.setSched c).env = s.env := rfl
@[simp] theorem setSched_host (c : Sched) : (s.setSched c).host = s.host := rfl
@[simp] theorem setSched_sched (c : Sched) : (s.setSched c).sched = c := rfl
@[simp] theorem setSched_fault (c : Sched) : (s.setSched c).fault = s.fault := rfl
@[simp] theorem setSched_refusal (c : Sched) : (s.setSched c).refusal = s.refusal := rfl

/-! ### `setFault` -/

@[simp] theorem setFault_pstate (f : Option Fault) : (s.setFault f).pstate = s.pstate := rfl
@[simp] theorem setFault_seq (f : Option Fault) : (s.setFault f).seq = s.seq := rfl
@[simp] theorem setFault_reqShadow (f : Option Fault) : (s.setFault f).reqShadow = s.reqShadow := rfl
@[simp] theorem setFault_bufBase (f : Option Fault) : (s.setFault f).bufBase = s.bufBase := rfl
@[simp] theorem setFault_bufLen (f : Option Fault) : (s.setFault f).bufLen = s.bufLen := rfl
@[simp] theorem setFault_result (f : Option Fault) : (s.setFault f).result = s.result := rfl
@[simp] theorem setFault_overrun (f : Option Fault) : (s.setFault f).overrun = s.overrun := rfl
@[simp] theorem setFault_latched (f : Option Fault) : (s.setFault f).latched = s.latched := rfl
@[simp] theorem setFault_k (f : Option Fault) : (s.setFault f).k = s.k := rfl
@[simp] theorem setFault_polls (f : Option Fault) : (s.setFault f).polls = s.polls := rfl
@[simp] theorem setFault_pins (f : Option Fault) : (s.setFault f).pins = s.pins := rfl
@[simp] theorem setFault_trace (f : Option Fault) : (s.setFault f).trace = s.trace := rfl
@[simp] theorem setFault_cfg (f : Option Fault) : (s.setFault f).cfg = s.cfg := rfl
@[simp] theorem setFault_mem (f : Option Fault) : (s.setFault f).mem = s.mem := rfl
@[simp] theorem setFault_env (f : Option Fault) : (s.setFault f).env = s.env := rfl
@[simp] theorem setFault_host (f : Option Fault) : (s.setFault f).host = s.host := rfl
@[simp] theorem setFault_sched (f : Option Fault) : (s.setFault f).sched = s.sched := rfl
@[simp] theorem setFault_fault (f : Option Fault) : (s.setFault f).fault = f := rfl
@[simp] theorem setFault_refusal (f : Option Fault) : (s.setFault f).refusal = s.refusal := rfl

/-! ### `setRefusal` -/

@[simp] theorem setRefusal_pstate (r : Option Refusal) : (s.setRefusal r).pstate = s.pstate := rfl
@[simp] theorem setRefusal_seq (r : Option Refusal) : (s.setRefusal r).seq = s.seq := rfl
@[simp] theorem setRefusal_reqShadow (r : Option Refusal) : (s.setRefusal r).reqShadow = s.reqShadow := rfl
@[simp] theorem setRefusal_bufBase (r : Option Refusal) : (s.setRefusal r).bufBase = s.bufBase := rfl
@[simp] theorem setRefusal_bufLen (r : Option Refusal) : (s.setRefusal r).bufLen = s.bufLen := rfl
@[simp] theorem setRefusal_result (r : Option Refusal) : (s.setRefusal r).result = s.result := rfl
@[simp] theorem setRefusal_overrun (r : Option Refusal) : (s.setRefusal r).overrun = s.overrun := rfl
@[simp] theorem setRefusal_latched (r : Option Refusal) : (s.setRefusal r).latched = s.latched := rfl
@[simp] theorem setRefusal_k (r : Option Refusal) : (s.setRefusal r).k = s.k := rfl
@[simp] theorem setRefusal_polls (r : Option Refusal) : (s.setRefusal r).polls = s.polls := rfl
@[simp] theorem setRefusal_pins (r : Option Refusal) : (s.setRefusal r).pins = s.pins := rfl
@[simp] theorem setRefusal_trace (r : Option Refusal) : (s.setRefusal r).trace = s.trace := rfl
@[simp] theorem setRefusal_cfg (r : Option Refusal) : (s.setRefusal r).cfg = s.cfg := rfl
@[simp] theorem setRefusal_mem (r : Option Refusal) : (s.setRefusal r).mem = s.mem := rfl
@[simp] theorem setRefusal_env (r : Option Refusal) : (s.setRefusal r).env = s.env := rfl
@[simp] theorem setRefusal_host (r : Option Refusal) : (s.setRefusal r).host = s.host := rfl
@[simp] theorem setRefusal_sched (r : Option Refusal) : (s.setRefusal r).sched = s.sched := rfl
@[simp] theorem setRefusal_fault (r : Option Refusal) : (s.setRefusal r).fault = s.fault := rfl
@[simp] theorem setRefusal_refusal (r : Option Refusal) : (s.setRefusal r).refusal = r := rfl

end Sys2Proof.Machine.State
end

