-- ==== Sys2Proof/Laws/Moves.lean ====
section
/-! SUPPORT. What one step can do, said once: every next state of the block's step and of the host's step is one of the
moves below. Invariants are proved from the moves, not by unfolding the step again. -/

namespace Sys2Proof.Machine

/-- What a request does once its wait sees a not-busy sample. -/
def afterWait : Request → State → State
  | .init => afterInitWait
  | .fill => afterRefreshWait .fill
  | .display => afterRefreshWait .display
  | .sleep => afterSleepWait

/-- The moves of the block. -/
inductive BlockMove (s : State) : State → Prop where
  | rest (h : s.seq = .ready) : BlockMove s s
  | illegal (r : Option Request) (h : s.seq = .run (.dispatch r)) (hi : requestOf (decodeReq s.reqShadow) = none) :
      BlockMove s (raise .errIllegal s)
  | forbidden (r : Option Request) (q : Request) (h : s.seq = .run (.dispatch r))
      (hi : requestOf (decodeReq s.reqShadow) = some q) (hp : permitted q s.pstate = false) :
      BlockMove s (raise .errSequence s)
  | init (r : Option Request) (h : s.seq = .run (.dispatch r)) (hi : decodeReq s.reqShadow = .init)
      (hp : permitted .init s.pstate = true) : BlockMove s (initFirst s)
  | fill (r : Option Request) (n : Nibble) (h : s.seq = .run (.dispatch r)) (hi : decodeReq s.reqShadow = .fill n)
      (hp : permitted .fill s.pstate = true) (hc : recognisedNibble s.cfg s.latched.color = true) :
      BlockMove s (openFrame (.fill .frameWrite) (cmdWord s.cfg.cmdFrameWrite) s)
  | fillColor (r : Option Request) (n : Nibble) (h : s.seq = .run (.dispatch r)) (hi : decodeReq s.reqShadow = .fill n)
      (hp : permitted .fill s.pstate = true) (hc : recognisedNibble s.cfg s.latched.color = false) :
      BlockMove s (raise .errColor s)
  | displayLength (r : Option Request) (h : s.seq = .run (.dispatch r)) (hi : decodeReq s.reqShadow = .display)
      (hp : permitted .display s.pstate = true) (hl : s.latched.len.toNat ≠ s.cfg.npix) :
      BlockMove s (raise .errLength s)
  | displayEmpty (r : Option Request) (h : s.seq = .run (.dispatch r)) (hi : decodeReq s.reqShadow = .display)
      (hp : permitted .display s.pstate = true) (hl : s.latched.len.toNat = s.cfg.npix) (h0 : s.cfg.npix = 0) :
      BlockMove s (openFrame (.display .frameWrite) (cmdWord s.cfg.cmdFrameWrite) (s.setK 0))
  | display (r : Option Request) (b : Byte) (n : Nibble) (h : s.seq = .run (.dispatch r))
      (hi : decodeReq s.reqShadow = .display) (hp : permitted .display s.pstate = true)
      (hl : s.latched.len.toNat = s.cfg.npix) (h0 : 0 < s.cfg.npix)
      (hm : Memory.read s.mem (bufferAddr s.latched.base 0).toNat = some b) (he : encode8 s.cfg b = some n) :
      BlockMove s (validateNext (((s.setK 0).emit (.memRd (bufferAddr s.latched.base 0) b)).setK 1))
  | displayColor (r : Option Request) (b : Byte) (h : s.seq = .run (.dispatch r))
      (hi : decodeReq s.reqShadow = .display) (hp : permitted .display s.pstate = true)
      (hl : s.latched.len.toNat = s.cfg.npix) (h0 : 0 < s.cfg.npix)
      (hm : Memory.read s.mem (bufferAddr s.latched.base 0).toNat = some b) (he : encode8 s.cfg b = none) :
      BlockMove s (goto (.exit .display .errColor) ((s.setK 0).emit (.memRd (bufferAddr s.latched.base 0) b)))
  | sleep (r : Option Request) (h : s.seq = .run (.dispatch r)) (hi : decodeReq s.reqShadow = .sleep)
      (hp : permitted .sleep s.pstate = true) : BlockMove s (sleepFirst s)
  | frame (c : FrameCall) (w : FrameWord) (ph ph' : FramePhase) (h : s.seq = .run (.frame c w ph))
      (hn : nextPhase ph = some ph') : BlockMove s (goto (.frame c w ph') (framePrimitive w ph s))
  | close (c : FrameCall) (w : FrameWord) (h : s.seq = .run (.frame c w .deselect)) :
      BlockMove s (afterFrame c (setLine .csN 1 s))
  | hardReset (p : ResetPoint) (h : s.seq = .run (.hardReset p)) : BlockMove s (hardResetStep p s)
  | notBusy (r : Request) (h : s.seq = .run (.wait r .sample))
      (hb : s.env.nextBusy ≠ s.cfg.busyActiveLevel.get (siteOf r)) : BlockMove s (afterWait r (sampleBusy s))
  | timeout (r : Request) (h : s.seq = .run (.wait r .sample))
      (hb : s.env.nextBusy = s.cfg.busyActiveLevel.get (siteOf r)) (ht : timedOut s.cfg (s.polls + 1) = true) :
      BlockMove s (goto (.exit r .errTimeout) (((sampleBusy s).setPolls (s.polls + 1)).setPState .uninitialized))
  | busy (r : Request) (h : s.seq = .run (.wait r .sample))
      (hb : s.env.nextBusy = s.cfg.busyActiveLevel.get (siteOf r)) (ht : timedOut s.cfg (s.polls + 1) = false) :
      BlockMove s (goto (.wait r .hold) ((sampleBusy s).setPolls (s.polls + 1)))
  | hold (r : Request) (h : s.seq = .run (.wait r .hold)) :
      BlockMove s (goto (.wait r .sample) (waitFor .poll s.cfg.tPollMin s))
  | validate (b : Byte) (n : Nibble) (h : s.seq = .run (.read .validate))
      (hm : Memory.read s.mem (bufferAddr s.latched.base s.k).toNat = some b) (he : encode8 s.cfg b = some n) :
      BlockMove s (validateNext ((s.emit (.memRd (bufferAddr s.latched.base s.k) b)).setK (s.k + 1)))
  | validateColor (b : Byte) (h : s.seq = .run (.read .validate))
      (hm : Memory.read s.mem (bufferAddr s.latched.base s.k).toNat = some b) (he : encode8 s.cfg b = none) :
      BlockMove s (goto (.exit .display .errColor) (s.emit (.memRd (bufferAddr s.latched.base s.k) b)))
  | first (b : Byte) (h : s.seq = .run (.read .first))
      (hm : Memory.read s.mem (bufferAddr s.latched.base (2 * s.k)).toNat = some b) :
      BlockMove s (goto (.read (.second b)) (s.emit (.memRd (bufferAddr s.latched.base (2 * s.k)) b)))
  | second (b0 b1 : Byte) (hi lo : Nibble) (h : s.seq = .run (.read (.second b0)))
      (hm : Memory.read s.mem (bufferAddr s.latched.base (2 * s.k + 1)).toNat = some b1)
      (he0 : encode8 s.cfg b0 = some hi) (he1 : encode8 s.cfg b1 = some lo) :
      BlockMove s (startFrame (.display .pixel) (dataWord (pack hi lo))
        (s.emit (.memRd (bufferAddr s.latched.base (2 * s.k + 1)) b1)))
  | changed (b0 b1 : Byte) (h : s.seq = .run (.read (.second b0)))
      (hm : Memory.read s.mem (bufferAddr s.latched.base (2 * s.k + 1)).toNat = some b1)
      (he : encode8 s.cfg b0 = none ∨ encode8 s.cfg b1 = none) :
      BlockMove s ((s.emit (.memRd (bufferAddr s.latched.base (2 * s.k + 1)) b1)).setFault (some .hostBufferChanged))
  | exit (r : Request) (code : Result) (h : s.seq = .run (.exit r code)) : BlockMove s (exitStep code s)

/-- The moves of the host. -/
inductive HostMove (s : State) : State → Prop where
  | rest (h : s.host.script = []) : HostMove s s
  | accept (a w : Word) (l : List HostAct) (h : s.host.script = .write 4 a w :: l)
      (ha : windowOffset s.cfg a = some 0x00) (hr : s.seq = .ready) : HostMove s (popScript (accept w s))
  | drop (a w : Word) (l : List HostAct) (h : s.host.script = .write 4 a w :: l)
      (ha : windowOffset s.cfg a = some 0x00) (hr : s.seq ≠ .ready) : HostMove s (popScript (s.setOverrun true))
  | bufBase (w : Word) : HostMove s (popScript (s.setBufBase w))
  | bufLen (w : Word) : HostMove s (popScript (s.setBufLen w))
  | noEffect : HostMove s (popScript s)
  | refuse : HostMove s (refuseAccess s)
  | read (off : Nat) : HostMove s (popScript (logRead (readRegister off s) (afterRead off s)))
  | poll : HostMove s (hostPoll s)
  | store (a : Word) (v : Byte) : HostMove s (popScript (s.setMem (Memory.write s.mem a.toNat v)))
  | withdraw (a : Word) : HostMove s (popScript (s.setMem (Memory.erase s.mem a.toNat)))

theorem decodeReq_ne_frame (w : Word) (b : Byte) : decodeReq w ≠ .cmd b ∧ decodeReq w ≠ .data b := by
  unfold decodeReq
  repeat' split
  all_goals simp

/-- The frame decoder gives the `CMD` or `DATA` whose word it read. -/
theorem decodeFrame_word (w : FrameWord) :
    (∃ b, decodeFrame w = .cmd b ∧ cmdWord b = w) ∨ (∃ b, decodeFrame w = .data b ∧ dataWord b = w) := by
  have eta : frameWord (w.extractLsb' 8 1) (w.extractLsb' 0 8) = w := by
    apply BitVec.eq_of_getLsbD_eq
    intro i hi
    interval_cases i <;> simp [frameWord]
  have one : ∀ x : BitVec 1, x ≠ 0 → x = 1 := by decide
  by_cases h : w.extractLsb' 8 1 = 0
  · exact .inl ⟨w.extractLsb' 0 8, by simp [decodeFrame, h], by rw [cmdWord, ← h, eta]⟩
  · exact .inr ⟨w.extractLsb' 0 8, by rw [decodeFrame, if_neg h], by rw [dataWord, ← one _ h, eta]⟩

/-- Inside a frame the block runs that frame's next primitive. -/
theorem exec_in_frame {s : State} {c : FrameCall} {w : FrameWord} {ph : FramePhase}
    (h : s.seq = .run (.frame c w ph)) : exec (decodeFrame w) s = .next (frameStep (afterFrame c) c w ph s) := by
  rcases decodeFrame_word w with ⟨b, hb, rfl⟩ | ⟨b, hb, rfl⟩ <;>
    simp [hb, exec, execCmd, execData, runFrame, frameAt, h]

theorem displayFirst_move {s t : State} {r : Option Request} (h : s.seq = .run (.dispatch r))
    (hi : decodeReq s.reqShadow = .display) (hp : permitted .display s.pstate = true)
    (ht : displayFirst s = .next t) : BlockMove s t := by
  simp only [displayFirst] at ht
  split at ht
  · rename_i hl; cases ht; exact .displayLength r h hi hp hl
  · rename_i hl
    rw [not_not] at hl
    split at ht
    · rename_i h0
      simp only [validateRead, memRead] at ht
      cases hm : Memory.read (s.setK 0).mem (bufferAddr (s.setK 0).latched.base (s.setK 0).k).toNat with
      | none => simp only [hm, Option.map_none] at ht; cases ht
      | some b =>
        simp only [hm, Option.map_some] at ht
        cases he : encode8 (s.setK 0).cfg b with
        | none => simp only [he] at ht; cases ht; exact .displayColor r b h hi hp hl h0 hm he
        | some n => simp only [he] at ht; cases ht; exact .display r b n h hi hp hl h0 hm he
    · rename_i h0; cases ht; exact .displayEmpty r h hi hp hl (by omega)

theorem readStep_move {s t : State} {p : ReadPoint} (h : s.seq = .run (.read p)) (ht : readStep p s = .next t) :
    BlockMove s t := by
  cases p with
  | validate =>
    simp only [readStep, validateRead, memRead] at ht
    cases hm : Memory.read s.mem (bufferAddr s.latched.base s.k).toNat with
    | none => simp [hm] at ht
    | some b =>
      simp only [hm, Option.map_some] at ht
      cases he : encode8 s.cfg b with
      | none => simp only [he] at ht; cases ht; exact .validateColor b h hm he
      | some n => simp only [he] at ht; cases ht; exact .validate b n h hm he
  | first =>
    simp only [readStep, firstRead, memRead] at ht
    cases hm : Memory.read s.mem (bufferAddr s.latched.base (2 * s.k)).toNat with
    | none => simp [hm] at ht
    | some b => simp only [hm, Option.map_some] at ht; cases ht; exact .first b h hm
  | second b0 =>
    simp only [readStep, secondRead, memRead] at ht
    cases hm : Memory.read s.mem (bufferAddr s.latched.base (2 * s.k + 1)).toNat with
    | none => simp [hm] at ht
    | some b1 =>
      simp only [hm, Option.map_some] at ht
      cases h0 : encode8 s.cfg b0 with
      | none => simp only [h0] at ht; cases ht; exact .changed b0 b1 h hm (.inl h0)
      | some hi =>
        cases h1 : encode8 s.cfg b1 with
        | none => simp only [h0, h1] at ht; cases ht; exact .changed b0 b1 h hm (.inr h1)
        | some lo => simp only [h0, h1] at ht; cases ht; exact .second b0 b1 hi lo h hm h0 h1

theorem waitStep_move {s : State} {r : Request} {p : WaitPoint} (h : s.seq = .run (.wait r p)) :
    BlockMove s (waitStep (afterWait r) r p s) := by
  cases p with
  | hold => exact .hold r h
  | sample =>
    simp only [waitStep]
    split
    · rename_i hb; exact .notBusy r h hb
    · rename_i hb
      rw [not_not] at hb
      split
      · rename_i ht; exact .timeout r h hb ht
      · rename_i ht; exact .busy r h hb (by simpa using ht)

theorem dispatch_move {s t : State} {r : Option Request} (h : s.seq = .run (.dispatch r))
    (ht : exec (decodeReq s.reqShadow) s = .next t) : BlockMove s t := by
  cases hd : decodeReq s.reqShadow with
  | init =>
    simp only [hd, exec, execInit, h, checkState] at ht
    split at ht <;> rename_i hp <;> cases ht
    · exact .init r h hd hp
    · exact .forbidden r .init h (by rw [hd]; rfl) (by simpa using hp)
  | fill n =>
    simp only [hd, exec, execFill, h, checkState] at ht
    split at ht <;> rename_i hp <;> cases ht
    · simp only [fillFirst]
      split <;> rename_i hc
      · exact .fill r n h hd hp hc
      · exact .fillColor r n h hd hp (by simpa using hc)
    · exact .forbidden r .fill h (by rw [hd]; rfl) (by simpa using hp)
  | display =>
    simp only [hd, exec, execDisplay, h, checkState] at ht
    split at ht <;> rename_i hp
    · exact displayFirst_move h hd hp ht
    · cases ht; exact .forbidden r .display h (by rw [hd]; rfl) (by simpa using hp)
  | sleep =>
    simp only [hd, exec, execSleep, h, checkState] at ht
    split at ht <;> rename_i hp <;> cases ht
    · exact .sleep r h hd hp
    · exact .forbidden r .sleep h (by rw [hd]; rfl) (by simpa using hp)
  | rsvOp0 x => rw [hd] at ht; cases ht; exact .illegal r h (by rw [hd]; rfl)
  | rsvOp5 x => rw [hd] at ht; cases ht; exact .illegal r h (by rw [hd]; rfl)
  | rsvOp6 x => rw [hd] at ht; cases ht; exact .illegal r h (by rw [hd]; rfl)
  | rsvOp7 x => rw [hd] at ht; cases ht; exact .illegal r h (by rw [hd]; rfl)
  | illegalFields op r0 c r1 => rw [hd] at ht; cases ht; exact .illegal r h (by rw [hd]; rfl)
  | cmd b => exact absurd hd (decodeReq_ne_frame _ b).1
  | data b => exact absurd hd (decodeReq_ne_frame _ b).2

/-- Every next state of the block's step is one of its moves. -/
theorem blockStep_move {s t : State} (ht : blockStep s = .next t) : BlockMove s t := by
  unfold blockStep at ht
  cases hf : s.fault with
  | some f => simp [hf] at ht
  | none =>
    simp only [hf] at ht
    unfold fetch at ht
    cases hq : s.seq with
    | ready => simp only [hq] at ht; cases ht; exact .rest hq
    | run p =>
      cases p with
      | dispatch r => simp only [hq] at ht; exact dispatch_move hq ht
      | frame c w ph =>
        simp only [hq, exec_in_frame hq] at ht
        cases ht
        cases ph with
        | deselect => exact .close c w hq
        | select => exact .frame c w _ _ hq rfl
        | setDc => exact .frame c w _ _ hq rfl
        | setup => exact .frame c w _ _ hq rfl
        | exchange => exact .frame c w _ _ hq rfl
      | hardReset p => simp only [hq, exec, execInit] at ht; cases ht; exact .hardReset p hq
      | wait r p =>
        cases r <;> simp only [hq, exec, runningInstr, execInit, execFill, execDisplay, execSleep] at ht <;>
          cases ht <;> exact waitStep_move hq
      | read p => simp only [hq, exec, execDisplay] at ht; exact readStep_move hq ht
      | exit r code =>
        cases r <;> simp only [hq, exec, runningInstr, execInit, execFill, execDisplay, execSleep] at ht <;>
          cases ht <;> exact .exit _ code hq

theorem accessOk_width {width off : Nat} (h : accessOk width off = true) : width = 4 := by
  simp only [accessOk, Bool.and_eq_true, beq_iff_eq] at h; exact h.1

/-- Every next state of the host's step is one of its moves. -/
theorem hostStep_move {s t : State} (ht : hostStep s = .next t) : HostMove s t := by
  unfold hostStep at ht
  cases hs : s.host.script with
  | nil => simp only [hs] at ht; cases ht; exact .rest hs
  | cons act l =>
    cases act with
    | write width a w =>
      simp only [hs, hostWrite] at ht
      cases ha : windowOffset s.cfg a with
      | none => simp only [ha] at ht; cases ht; exact .noEffect
      | some off =>
        simp only [ha] at ht
        split at ht <;> rename_i hk
        · obtain rfl := accessOk_width hk
          cases ht
          simp only [writeRegister]
          split
          · rename_i h0; subst h0
            simp only [writeReq]
            split <;> rename_i hr
            · exact .accept a w l hs ha (by simpa [State.ready] using hr)
            · exact .drop a w l hs ha (by simpa [State.ready] using hr)
          · split
            · exact .bufBase w
            · split
              · exact .bufLen w
              · exact .noEffect
        · cases ht; exact .refuse
    | read width a =>
      simp only [hs, hostRead] at ht
      cases ha : windowOffset s.cfg a with
      | none => simp only [ha] at ht; cases ht; exact .noEffect
      | some off =>
        simp only [ha] at ht
        split at ht
        · cases ht; exact .read off
        · cases ht; exact .refuse
    | waitReady => simp only [hs] at ht; cases ht; exact .poll
    | store a v => simp only [hs] at ht; cases ht; exact .store a v
    | withdraw a => simp only [hs] at ht; cases ht; exact .withdraw a

/-- With no refusal recorded, a turn of the block is its step. -/
theorem step_block {s : State} (h : s.refusal = none) (ht : s.turn = .block) : step s = blockStep s.takeTurn := by
  simp only [step, h, ht]

/-- With no refusal recorded, a turn of the host is its step. -/
theorem step_host {s : State} (h : s.refusal = none) (ht : s.turn = .host) : step s = hostStep s.takeTurn := by
  simp only [step, h, ht]

/-- After a recorded refusal the machine has no step. -/
theorem step_refused {s : State} {r : Refusal} (h : s.refusal = some r) : step s = .refused r := by
  unfold step
  rw [h]

/-- A step that goes on began with no refusal recorded. -/
theorem step_next_unrefused {s t : State} (ht : step s = .next t) : s.refusal = none := by
  cases h : s.refusal with
  | none => rfl
  | some r => rw [step_refused h] at ht; cases ht

/-- Every next state of a step is a move of the agent whose turn it was. -/
theorem step_move {s t : State} (ht : step s = .next t) :
    (s.turn = .host ∧ HostMove s.takeTurn t) ∨ (s.turn = .block ∧ BlockMove s.takeTurn t) := by
  have hr := step_next_unrefused ht
  cases h : s.turn with
  | host => rw [step_host hr h] at ht; exact .inl ⟨rfl, hostStep_move ht⟩
  | block => rw [step_block hr h] at ht; exact .inr ⟨rfl, blockStep_move ht⟩

end Sys2Proof.Machine
end

