-- ==== Sys2Proof/Laws/Ops.lean ====
section
/-! SUPPORT. What each shared operation can do: one lemma per operation says what it leaves alone, and one lemma per
operation that goes on says where it goes on to. -/

namespace Sys2Proof.Machine

theorem BlockFrame.refl (s : State) : BlockFrame s s := ⟨rfl, rfl, rfl, rfl, rfl, rfl, rfl, rfl, rfl, rfl⟩

theorem BlockFrame.trans {a b c : State} (h : BlockFrame a b) (g : BlockFrame b c) : BlockFrame a c :=
  ⟨g.reqShadow.trans h.reqShadow, g.bufBase.trans h.bufBase, g.bufLen.trans h.bufLen, g.latched.trans h.latched,
    g.overrun.trans h.overrun, g.cfg.trans h.cfg, g.mem.trans h.mem, g.host.trans h.host, g.sched.trans h.sched,
    g.refusal.trans h.refusal⟩

/-! ### The primitives -/

theorem setLine_frame (l : Line) (v : Level) (s : State) : BlockFrame s (setLine l v s) :=
  ⟨rfl, rfl, rfl, rfl, rfl, rfl, rfl, rfl, rfl, rfl⟩

theorem waitFor_frame (k : DelayKind) (t : Nat) (s : State) : BlockFrame s (waitFor k t s) :=
  ⟨rfl, rfl, rfl, rfl, rfl, rfl, rfl, rfl, rfl, rfl⟩

theorem xfer_frame (b : Byte) (s : State) : BlockFrame s (xfer b s) :=
  ⟨rfl, rfl, rfl, rfl, rfl, rfl, rfl, rfl, rfl, rfl⟩

theorem sampleBusy_frame (s : State) : BlockFrame s (sampleBusy s) :=
  ⟨rfl, rfl, rfl, rfl, rfl, rfl, rfl, rfl, rfl, rfl⟩

/-- A read that answers gives the byte host memory holds, and appends its event and nothing else. -/
theorem memRead_some {a : Word} {s t : State} {b : Byte} (h : memRead a s = some (b, t)) :
    Memory.read s.mem a.toNat = some b ∧ t = s.emit (.memRd a b) := by
  simp only [memRead, Option.map_eq_some_iff, Prod.mk.injEq] at h
  obtain ⟨v, hv, rfl, rfl⟩ := h
  exact ⟨hv, rfl⟩

theorem memRead_none {a : Word} {s : State} : memRead a s = none ↔ Memory.read s.mem a.toNat = none := by
  simp [memRead]

@[simp] theorem setLine_pins (l : Line) (v : Level) (s : State) : (setLine l v s).pins = s.pins.set l v := rfl
@[simp] theorem setLine_trace (l : Line) (v : Level) (s : State) : (setLine l v s).trace = s.trace ++ [.line l v] := rfl
@[simp] theorem setLine_seq (l : Line) (v : Level) (s : State) : (setLine l v s).seq = s.seq := rfl
@[simp] theorem setLine_pstate (l : Line) (v : Level) (s : State) : (setLine l v s).pstate = s.pstate := rfl
@[simp] theorem setLine_result (l : Line) (v : Level) (s : State) : (setLine l v s).result = s.result := rfl
@[simp] theorem waitFor_pins (k : DelayKind) (t : Nat) (s : State) : (waitFor k t s).pins = s.pins := rfl
@[simp] theorem waitFor_trace (k : DelayKind) (t : Nat) (s : State) :
    (waitFor k t s).trace = s.trace ++ [.delay k (t + s.env.nextSlack)] := rfl
@[simp] theorem xfer_pins (b : Byte) (s : State) : (xfer b s).pins = s.pins := rfl
@[simp] theorem xfer_trace (b : Byte) (s : State) : (xfer b s).trace = s.trace ++ [.xfer b s.env.nextRx] := rfl
@[simp] theorem sampleBusy_pins (s : State) : (sampleBusy s).pins = s.pins := rfl
@[simp] theorem sampleBusy_trace (s : State) : (sampleBusy s).trace = s.trace ++ [.poll s.env.nextBusy] := rfl

/-! ### Going on -/

@[simp] theorem goto_seq (p : Point) (s : State) : (goto p s).seq = .run p := rfl
@[simp] theorem goto_trace (p : Point) (s : State) : (goto p s).trace = s.trace := rfl
@[simp] theorem goto_pins (p : Point) (s : State) : (goto p s).pins = s.pins := rfl
@[simp] theorem goto_pstate (p : Point) (s : State) : (goto p s).pstate = s.pstate := rfl
@[simp] theorem goto_result (p : Point) (s : State) : (goto p s).result = s.result := rfl
@[simp] theorem goto_k (p : Point) (s : State) : (goto p s).k = s.k := rfl
@[simp] theorem goto_env (p : Point) (s : State) : (goto p s).env = s.env := rfl

theorem goto_frame (p : Point) (s : State) : BlockFrame s (goto p s) := ⟨rfl, rfl, rfl, rfl, rfl, rfl, rfl, rfl, rfl, rfl⟩

theorem setK_frame (k : Nat) (s : State) : BlockFrame s (s.setK k) := ⟨rfl, rfl, rfl, rfl, rfl, rfl, rfl, rfl, rfl, rfl⟩

theorem emit_frame (e : Event) (s : State) : BlockFrame s (s.emit e) := ⟨rfl, rfl, rfl, rfl, rfl, rfl, rfl, rfl, rfl, rfl⟩

/-- `INIT` goes on at its frame `j`, or after the last at the busy-wait. -/
theorem initSend_cases (j : Nat) (s : State) :
    (∃ w, (initFrames s.cfg)[j]? = some w ∧ initSend j s = goto (.frame (.init j) w .select) s) ∨
    ((initFrames s.cfg)[j]? = none ∧ initSend j s = goto (.wait .init .sample) (s.setPolls 0)) := by
  unfold initSend
  cases h : (initFrames s.cfg)[j]? with
  | none => exact .inr ⟨rfl, rfl⟩
  | some w => exact .inl ⟨w, rfl, rfl⟩

/-- `FILL` goes on at a data frame, or after the last at the refresh frame. -/
theorem fillSend_cases (s : State) :
    (s.k < s.cfg.nbytes ∧
      fillSend s = goto (.frame (.fill .pixel) (dataWord (fillByte s.latched.color)) .select) s) ∨
    (s.cfg.nbytes ≤ s.k ∧ fillSend s = goto (.frame (.fill .refresh) (cmdWord s.cfg.cmdRefresh) .select) s) := by
  unfold fillSend
  split
  · exact .inl ⟨‹_›, rfl⟩
  · exact .inr ⟨by omega, rfl⟩

/-- `DISPLAY` goes on at the read of byte `2K`, or after the last frame at the refresh frame. -/
theorem displaySend_cases (s : State) :
    (s.k < s.cfg.nbytes ∧ displaySend s = goto (.read .first) s) ∨
    (s.cfg.nbytes ≤ s.k ∧ displaySend s = goto (.frame (.display .refresh) (cmdWord s.cfg.cmdRefresh) .select) s) := by
  unfold displaySend
  split
  · exact .inl ⟨‹_›, rfl⟩
  · exact .inr ⟨by omega, rfl⟩

/-- `VALIDATE` goes on at the read of byte `K`, or after the last at the frame-write frame. -/
theorem validateNext_cases (s : State) :
    (s.k < s.cfg.npix ∧ validateNext s = goto (.read .validate) s) ∨
    (s.cfg.npix ≤ s.k ∧
      validateNext s = goto (.frame (.display .frameWrite) (cmdWord s.cfg.cmdFrameWrite) .select) s) := by
  unfold validateNext
  split
  · exact .inl ⟨‹_›, rfl⟩
  · exact .inr ⟨by omega, rfl⟩

theorem initSend_frame (j : Nat) (s : State) : BlockFrame s (initSend j s) := by
  obtain ⟨w, -, h⟩ | ⟨-, h⟩ := initSend_cases j s <;> rw [h] <;> constructor <;> rfl

theorem fillSend_frame (s : State) : BlockFrame s (fillSend s) := by
  obtain ⟨-, h⟩ | ⟨-, h⟩ := fillSend_cases s <;> rw [h] <;> constructor <;> rfl

theorem displaySend_frame (s : State) : BlockFrame s (displaySend s) := by
  obtain ⟨-, h⟩ | ⟨-, h⟩ := displaySend_cases s <;> rw [h] <;> constructor <;> rfl

theorem validateNext_frame (s : State) : BlockFrame s (validateNext s) := by
  obtain ⟨-, h⟩ | ⟨-, h⟩ := validateNext_cases s <;> rw [h] <;> constructor <;> rfl

/-! ### The sub-blocks' steps -/

theorem framePrimitive_frame (w : FrameWord) (ph : FramePhase) (s : State) : BlockFrame s (framePrimitive w ph s) := by
  cases ph <;> constructor <;> rfl

theorem hardResetStep_frame (p : ResetPoint) (s : State) : BlockFrame s (hardResetStep p s) := by
  cases p with
  | holdLow => exact (waitFor_frame _ _ s).trans (goto_frame _ _)
  | driveHigh => exact (setLine_frame _ _ s).trans (goto_frame _ _)
  | holdHigh => exact (waitFor_frame _ _ s).trans (initSend_frame 0 _)

theorem afterFrame_frame (c : FrameCall) (s : State) : BlockFrame s (afterFrame c s) := by
  cases c with
  | init j => exact initSend_frame _ s
  | fill c =>
    cases c with
    | frameWrite => exact (setK_frame _ s).trans (fillSend_frame _)
    | pixel => exact (setK_frame _ s).trans (fillSend_frame _)
    | refresh => constructor <;> rfl
  | display c =>
    cases c with
    | frameWrite => exact (setK_frame _ s).trans (displaySend_frame _)
    | pixel => exact (setK_frame _ s).trans (displaySend_frame _)
    | refresh => constructor <;> rfl
  | sleep c => cases c <;> constructor <;> rfl

theorem frameStep_frame (c : FrameCall) (w : FrameWord) (ph : FramePhase) (s : State) :
    BlockFrame s (frameStep (afterFrame c) c w ph s) := by
  unfold frameStep
  cases nextPhase ph with
  | some ph' => exact (framePrimitive_frame w ph s).trans (goto_frame _ _)
  | none => exact (framePrimitive_frame w ph s).trans (afterFrame_frame c _)

/-- A wait leaves the host's side alone if what follows it does. -/
theorem waitStep_frame {after : State → State} (ha : ∀ u, BlockFrame u (after u)) (r : Request) (p : WaitPoint)
    (s : State) : BlockFrame s (waitStep after r p s) := by
  cases p with
  | hold => exact (waitFor_frame _ _ s).trans (goto_frame _ _)
  | sample =>
    unfold waitStep
    dsimp only
    split
    · exact (sampleBusy_frame s).trans (ha _)
    · split <;> constructor <;> rfl

theorem exitStep_frame (code : Result) (s : State) : BlockFrame s (exitStep code s) := by
  cases code <;> constructor <;> rfl

/-- The exit writes the code, makes the block ready and emits `Done`, whichever way it ends. -/
theorem exitStep_eq (code : Result) (s : State) :
    exitStep code s = ((s.setResult code).setSeq .ready).emit (.done code) := by
  cases code <;> rfl

/-! ### What going on leaves alone -/

theorem initSend_pins (j : Nat) (s : State) : (initSend j s).pins = s.pins := by
  obtain ⟨w, -, h⟩ | ⟨-, h⟩ := initSend_cases j s <;> rw [h] <;> rfl

theorem initSend_trace (j : Nat) (s : State) : (initSend j s).trace = s.trace := by
  obtain ⟨w, -, h⟩ | ⟨-, h⟩ := initSend_cases j s <;> rw [h] <;> rfl

theorem initSend_result (j : Nat) (s : State) : (initSend j s).result = s.result := by
  obtain ⟨w, -, h⟩ | ⟨-, h⟩ := initSend_cases j s <;> rw [h] <;> rfl

theorem initSend_pstate (j : Nat) (s : State) : (initSend j s).pstate = s.pstate := by
  obtain ⟨w, -, h⟩ | ⟨-, h⟩ := initSend_cases j s <;> rw [h] <;> rfl

theorem initSend_fault (j : Nat) (s : State) : (initSend j s).fault = s.fault := by
  obtain ⟨w, -, h⟩ | ⟨-, h⟩ := initSend_cases j s <;> rw [h] <;> rfl

theorem fillSend_pins (s : State) : (fillSend s).pins = s.pins := by
  obtain ⟨-, h⟩ | ⟨-, h⟩ := fillSend_cases s <;> rw [h] <;> rfl

theorem fillSend_trace (s : State) : (fillSend s).trace = s.trace := by
  obtain ⟨-, h⟩ | ⟨-, h⟩ := fillSend_cases s <;> rw [h] <;> rfl

theorem fillSend_result (s : State) : (fillSend s).result = s.result := by
  obtain ⟨-, h⟩ | ⟨-, h⟩ := fillSend_cases s <;> rw [h] <;> rfl

theorem fillSend_pstate (s : State) : (fillSend s).pstate = s.pstate := by
  obtain ⟨-, h⟩ | ⟨-, h⟩ := fillSend_cases s <;> rw [h] <;> rfl

theorem fillSend_fault (s : State) : (fillSend s).fault = s.fault := by
  obtain ⟨-, h⟩ | ⟨-, h⟩ := fillSend_cases s <;> rw [h] <;> rfl

theorem displaySend_pins (s : State) : (displaySend s).pins = s.pins := by
  obtain ⟨-, h⟩ | ⟨-, h⟩ := displaySend_cases s <;> rw [h] <;> rfl

theorem displaySend_trace (s : State) : (displaySend s).trace = s.trace := by
  obtain ⟨-, h⟩ | ⟨-, h⟩ := displaySend_cases s <;> rw [h] <;> rfl

theorem displaySend_result (s : State) : (displaySend s).result = s.result := by
  obtain ⟨-, h⟩ | ⟨-, h⟩ := displaySend_cases s <;> rw [h] <;> rfl

theorem displaySend_pstate (s : State) : (displaySend s).pstate = s.pstate := by
  obtain ⟨-, h⟩ | ⟨-, h⟩ := displaySend_cases s <;> rw [h] <;> rfl

theorem displaySend_fault (s : State) : (displaySend s).fault = s.fault := by
  obtain ⟨-, h⟩ | ⟨-, h⟩ := displaySend_cases s <;> rw [h] <;> rfl

theorem validateNext_pins (s : State) : (validateNext s).pins = s.pins := by
  obtain ⟨-, h⟩ | ⟨-, h⟩ := validateNext_cases s <;> rw [h] <;> rfl

theorem validateNext_trace (s : State) : (validateNext s).trace = s.trace := by
  obtain ⟨-, h⟩ | ⟨-, h⟩ := validateNext_cases s <;> rw [h] <;> rfl

theorem validateNext_result (s : State) : (validateNext s).result = s.result := by
  obtain ⟨-, h⟩ | ⟨-, h⟩ := validateNext_cases s <;> rw [h] <;> rfl

theorem validateNext_pstate (s : State) : (validateNext s).pstate = s.pstate := by
  obtain ⟨-, h⟩ | ⟨-, h⟩ := validateNext_cases s <;> rw [h] <;> rfl

theorem validateNext_fault (s : State) : (validateNext s).fault = s.fault := by
  obtain ⟨-, h⟩ | ⟨-, h⟩ := validateNext_cases s <;> rw [h] <;> rfl

theorem afterFrame_pins (c : FrameCall) (s : State) : (afterFrame c s).pins = s.pins := by
  cases c with
  | init j => exact initSend_pins _ s
  | fill c =>
    cases c with
    | frameWrite => exact fillSend_pins (s.setK 0)
    | pixel => exact fillSend_pins (s.setK (s.k + 1))
    | refresh => rfl
  | display c =>
    cases c with
    | frameWrite => exact displaySend_pins (s.setK 0)
    | pixel => exact displaySend_pins (s.setK (s.k + 1))
    | refresh => rfl
  | sleep c => cases c <;> rfl

theorem afterFrame_trace (c : FrameCall) (s : State) : (afterFrame c s).trace = s.trace := by
  cases c with
  | init j => exact initSend_trace _ s
  | fill c =>
    cases c with
    | frameWrite => exact fillSend_trace (s.setK 0)
    | pixel => exact fillSend_trace (s.setK (s.k + 1))
    | refresh => rfl
  | display c =>
    cases c with
    | frameWrite => exact displaySend_trace (s.setK 0)
    | pixel => exact displaySend_trace (s.setK (s.k + 1))
    | refresh => rfl
  | sleep c => cases c <;> rfl

theorem afterFrame_result (c : FrameCall) (s : State) : (afterFrame c s).result = s.result := by
  cases c with
  | init j => exact initSend_result _ s
  | fill c =>
    cases c with
    | frameWrite => exact fillSend_result (s.setK 0)
    | pixel => exact fillSend_result (s.setK (s.k + 1))
    | refresh => rfl
  | display c =>
    cases c with
    | frameWrite => exact displaySend_result (s.setK 0)
    | pixel => exact displaySend_result (s.setK (s.k + 1))
    | refresh => rfl
  | sleep c => cases c <;> rfl

theorem afterFrame_fault (c : FrameCall) (s : State) : (afterFrame c s).fault = s.fault := by
  cases c with
  | init j => exact initSend_fault _ s
  | fill c =>
    cases c with
    | frameWrite => exact fillSend_fault (s.setK 0)
    | pixel => exact fillSend_fault (s.setK (s.k + 1))
    | refresh => rfl
  | display c =>
    cases c with
    | frameWrite => exact displaySend_fault (s.setK 0)
    | pixel => exact displaySend_fault (s.setK (s.k + 1))
    | refresh => rfl
  | sleep c => cases c <;> rfl

/-! ### No operation of the block reads the schedule or, past a frame, the position -/

theorem initSend_setSched (j : Nat) (s : State) (d : Sched) : initSend j (s.setSched d) = (initSend j s).setSched d := by
  unfold initSend
  rw [State.setSched_cfg]
  cases (initFrames s.cfg)[j]? <;> rfl

theorem fillSend_setSched (s : State) (d : Sched) : fillSend (s.setSched d) = (fillSend s).setSched d := by
  unfold fillSend
  rw [State.setSched_cfg, State.setSched_k]
  split <;> rfl

theorem displaySend_setSched (s : State) (d : Sched) : displaySend (s.setSched d) = (displaySend s).setSched d := by
  unfold displaySend
  rw [State.setSched_cfg, State.setSched_k]
  split <;> rfl

theorem validateNext_setSched (s : State) (d : Sched) : validateNext (s.setSched d) = (validateNext s).setSched d := by
  unfold validateNext
  rw [State.setSched_cfg, State.setSched_k]
  split <;> rfl

theorem afterFrame_setSched (c : FrameCall) (s : State) (d : Sched) :
    afterFrame c (s.setSched d) = (afterFrame c s).setSched d := by
  cases c with
  | init j => exact initSend_setSched _ s d
  | fill c =>
    cases c with
    | frameWrite => exact fillSend_setSched (s.setK 0) d
    | pixel => exact fillSend_setSched (s.setK (s.k + 1)) d
    | refresh => rfl
  | display c =>
    cases c with
    | frameWrite => exact displaySend_setSched (s.setK 0) d
    | pixel => exact displaySend_setSched (s.setK (s.k + 1)) d
    | refresh => rfl
  | sleep c => cases c <;> rfl

theorem initSend_setSeq (j : Nat) (s : State) (q : Seq) : initSend j (s.setSeq q) = initSend j s := by
  unfold initSend
  rw [State.setSeq_cfg]
  cases (initFrames s.cfg)[j]? <;> rfl

theorem fillSend_setSeq (s : State) (q : Seq) : fillSend (s.setSeq q) = fillSend s := by
  unfold fillSend
  rw [State.setSeq_cfg, State.setSeq_k]
  split <;> rfl

theorem displaySend_setSeq (s : State) (q : Seq) : displaySend (s.setSeq q) = displaySend s := by
  unfold displaySend
  rw [State.setSeq_cfg, State.setSeq_k]
  split <;> rfl

theorem afterFrame_setSeq (c : FrameCall) (s : State) (q : Seq) : afterFrame c (s.setSeq q) = afterFrame c s := by
  cases c with
  | init j => exact initSend_setSeq _ s q
  | fill c =>
    cases c with
    | frameWrite => exact fillSend_setSeq (s.setK 0) q
    | pixel => exact fillSend_setSeq (s.setK (s.k + 1)) q
    | refresh => rfl
  | display c =>
    cases c with
    | frameWrite => exact displaySend_setSeq (s.setK 0) q
    | pixel => exact displaySend_setSeq (s.setK (s.k + 1)) q
    | refresh => rfl
  | sleep c => cases c <;> rfl

/-! ### The host port -/

/-- An accepted word changes only the registers of R500, `SEQ` and `TRACE`. -/
theorem accept_leaves (w : Word) (s : State) :
    (accept w s).pstate = s.pstate ∧ (accept w s).result = s.result ∧ (accept w s).pins = s.pins ∧
    (accept w s).bufBase = s.bufBase ∧ (accept w s).bufLen = s.bufLen ∧ (accept w s).k = s.k ∧
    (accept w s).polls = s.polls ∧ (accept w s).mem = s.mem ∧ (accept w s).cfg = s.cfg :=
  ⟨rfl, rfl, rfl, rfl, rfl, rfl, rfl, rfl, rfl⟩

/-- The register at the window's first offset is `REQ`. -/
theorem windowOffset_regBase (c : Cfg) : windowOffset c c.regBase = some 0 := by
  simp [windowOffset]

/-- An address in the window has its distance from `REG_BASE` as its offset. -/
theorem windowOffset_of_add {c : Cfg} {a : Word} {off : Nat} (h : a.toNat = c.regBase.toNat + off) (ho : off ≤ 0x1F) :
    windowOffset c a = some off := by
  rw [windowOffset, if_pos ⟨by omega, by omega⟩, h, Nat.add_sub_cancel_left]

/-- An address below or above the window has no offset. -/
theorem windowOffset_outside {c : Cfg} {a : Word} (h : a.toNat < c.regBase.toNat ∨ c.regBase.toNat + 0x1F < a.toNat) :
    windowOffset c a = none := by
  rw [windowOffset, if_neg (by omega)]

/-- Only one address has a given offset. -/
theorem windowOffset_some {c : Cfg} {a : Word} {off : Nat} (h : windowOffset c a = some off) :
    a.toNat = c.regBase.toNat + off ∧ off ≤ 0x1F := by
  unfold windowOffset at h
  split at h
  · cases h; omega
  · cases h

/-- A read of a register changes nothing of the block but the environment's draw at `LINES`. -/
theorem afterRead_leaves (off : Nat) (s : State) : ∃ e, afterRead off s = s.setEnv e := by
  unfold afterRead
  split
  · exact ⟨_, rfl⟩
  · exact ⟨s.env, rfl⟩

end Sys2Proof.Machine
end

