-- ==== Sys2Proof/Laws/PerInstr.lean ====
section
/-! SUPPORT. The family `TableRow`: the encoded word of every well-formed instruction matches its own row of
spec/opcode_table.json. -/

namespace Sys2Proof.Laws.TableRow

/-- The encoded word under the row's mask is the row's match; the row `ILLEGAL_FIELDS` has a condition in place of a
mask. -/
def Statement (i : Instr) : Prop :=
  i.wellFormed = true →
    match i with
    | .init => encode i = .req 0x00000001
    | .fill _ => ∃ w, encode i = .req w ∧ w &&& 0xFFFFFF0F = 0x00000002
    | .display => encode i = .req 0x00000003
    | .sleep => encode i = .req 0x00000004
    | .rsvOp0 _ => ∃ w, encode i = .req w ∧ w &&& 0x00000007 = 0x00000000
    | .rsvOp5 _ => ∃ w, encode i = .req w ∧ w &&& 0x00000007 = 0x00000005
    | .rsvOp6 _ => ∃ w, encode i = .req w ∧ w &&& 0x00000007 = 0x00000006
    | .rsvOp7 _ => ∃ w, encode i = .req w ∧ w &&& 0x00000007 = 0x00000007
    | .illegalFields _ _ _ _ => ∃ w, encode i = .req w ∧ legalOp (w.extractLsb' 0 3) = true ∧
        badField (w.extractLsb' 0 3) (w.extractLsb' 3 1) (w.extractLsb' 4 4) (w.extractLsb' 8 24) = true
    | .cmd _ => ∃ w, encode i = .frame w ∧ w.extractLsb' 8 1 = 0
    | .data _ => ∃ w, encode i = .frame w ∧ w.extractLsb' 8 1 = 1

theorem init : Statement .init := fun _ => by decide

theorem fill (n : Nibble) : Statement (.fill n) := fun _ =>
  ⟨_, rfl, (fillMask_iff _).2 ⟨reqWord_op .., reqWord_rsv0 .., reqWord_rsv1 ..⟩⟩

theorem display : Statement .display := fun _ => by decide

theorem sleep : Statement .sleep := fun _ => by decide

theorem rsvOp0 (rest : BitVec 29) : Statement (.rsvOp0 rest) := fun _ =>
  ⟨_, rfl, by rw [and_seven, rsvWord_op]; decide⟩

theorem rsvOp5 (rest : BitVec 29) : Statement (.rsvOp5 rest) := fun _ =>
  ⟨_, rfl, by rw [and_seven, rsvWord_op]; decide⟩

theorem rsvOp6 (rest : BitVec 29) : Statement (.rsvOp6 rest) := fun _ =>
  ⟨_, rfl, by rw [and_seven, rsvWord_op]; decide⟩

theorem rsvOp7 (rest : BitVec 29) : Statement (.rsvOp7 rest) := fun _ =>
  ⟨_, rfl, by rw [and_seven, rsvWord_op]; decide⟩

theorem illegalFields (op : BitVec 3) (rsv0 : BitVec 1) (color : Nibble) (rsv1 : BitVec 24) :
    Statement (.illegalFields op rsv0 color rsv1) := fun h => by
  simp only [Instr.wellFormed, Bool.and_eq_true] at h
  exact ⟨_, rfl, by rw [reqWord_op]; exact h.1, by
    rw [reqWord_op, reqWord_rsv0, reqWord_color, reqWord_rsv1]; exact h.2⟩

theorem cmd (b : Byte) : Statement (.cmd b) := fun _ => ⟨_, rfl, frameWord_dc ..⟩

theorem data (b : Byte) : Statement (.data b) := fun _ => ⟨_, rfl, frameWord_dc ..⟩

end Sys2Proof.Laws.TableRow
end

