-- ==== Sys2Proof/Laws/Runs.lean ====
section
/-! SUPPORT. Runs of the block: steps put together, and what the turns of one frame come to. -/

namespace Sys2Proof.Machine

/-! ### Steps put together -/

/-- A run that begins with a step that goes on. -/
theorem run_succ (k : Nat) {s u : State} (h : step s = .next u) :
    Host.Core.run Sys2Proof.core (k + 1) s = Host.Core.run Sys2Proof.core k u := by
  have general : ∀ (M : Host.Core) (s u : M.State), M.step s = .next u →
      Host.Core.run M (k + 1) s = Host.Core.run M k u := fun M s u h => by simp only [Host.Core.run, h]
  exact general Sys2Proof.core s u h

/-- The first step of a run that goes on. -/
theorem run_succ_inv (k : Nat) {s t : State} (h : Host.Core.run Sys2Proof.core (k + 1) s = .next t) :
    ∃ u, step s = .next u ∧ Host.Core.run Sys2Proof.core k u = .next t := by
  have general : ∀ (M : Host.Core) (s t : M.State), Host.Core.run M (k + 1) s = .next t →
      ∃ u, M.step s = .next u ∧ Host.Core.run M k u = .next t := fun M s t h => by
    simp only [Host.Core.run] at h
    cases hu : M.step s with
    | next u => rw [hu] at h; exact ⟨u, rfl, h⟩
    | fault r => rw [hu] at h; cases h
    | refused r => rw [hu] at h; cases h
  exact general Sys2Proof.core s t h

theorem run_add (a b : Nat) {s t : State} (h : Host.Core.run Sys2Proof.core a s = .next t) :
    Host.Core.run Sys2Proof.core (a + b) s = Host.Core.run Sys2Proof.core b t := by
  induction a generalizing s with
  | zero => rw [Nat.zero_add]; cases h; rfl
  | succ a ih =>
    obtain ⟨u, h1, h2⟩ := run_succ_inv a h
    rw [Nat.succ_add, run_succ _ h1]
    exact ih h2

/-- `n` turns of the block lead from `s` to `t`, whatever the schedule holds after them. -/
def BlockRun (n : Nat) (s t : State) : Prop :=
  ∀ rest k, Host.Core.run Sys2Proof.core n (s.setSched ⟨List.replicate n .block ++ rest, k⟩) =
    .next (t.setSched ⟨rest, k + n⟩)

theorem BlockRun.zero (s : State) : BlockRun 0 s s := fun _ _ => rfl

theorem BlockRun.trans {a b : Nat} {s t u : State} (h : BlockRun a s t) (g : BlockRun b t u) :
    BlockRun (a + b) s u := fun rest k => by
  rw [← List.replicate_append_replicate, List.append_assoc, run_add a b (h _ _), g, Nat.add_assoc]

theorem BlockRun.cast {n m : Nat} {s t : State} (h : BlockRun n s t) (e : n = m) : BlockRun m s t := e ▸ h

/-- One step of the block that does not depend on the schedule. -/
theorem BlockRun.one {s t : State} (hr : s.refusal = none)
    (h : ∀ d, blockStep (s.setSched d) = .next (t.setSched d)) : BlockRun 1 s t :=
  fun rest k => run_succ 0 (u := t.setSched ⟨rest, k + 1⟩) 
    ((step_block (s := s.setSched ⟨.block :: rest, k⟩) hr rfl).trans (h _))

/-- Where the next `n` turns are scripted to be the block's, the machine's run is the block's. -/
theorem BlockRun.run {n : Nat} {s t : State} (h : BlockRun n s t) (hs : s.blockTurns n) :
    ∃ d, Host.Core.run Sys2Proof.core n s = .next (t.setSched d) := by
  obtain ⟨rest, hr⟩ := hs
  have e : s.setSched ⟨List.replicate n .block ++ rest, s.sched.taken⟩ = s := by rw [← hr]; rfl
  have := h rest s.sched.taken
  rw [e] at this
  exact ⟨_, this⟩

/-- At dispatch the block runs the instruction that `REQ_SHADOW` decodes to. -/
theorem BlockRun.dispatch {s t : State} {r : Option Request} (hu : s.unrecorded) (h : s.seq = .run (.dispatch r))
    (he : ∀ d, exec (decodeReq s.reqShadow) (s.setSched d) = .next (t.setSched d)) : BlockRun 1 s t :=
  .one hu.2 fun d => by
    unfold blockStep fetch
    rw [State.setSched_fault, hu.1, State.setSched_seq, h]
    exact he d

/-! ### A frame -/

/-- The state in which all five primitives of a frame have run. -/
def frameSent (w : FrameWord) (s : State) : State :=
  framePrimitive w .deselect (framePrimitive w .exchange (framePrimitive w .setup
    (framePrimitive w .setDc (framePrimitive w .select s))))

theorem framePrimitive_fault (w : FrameWord) (ph : FramePhase) (s : State) :
    (framePrimitive w ph s).fault = s.fault := by cases ph <;> rfl

theorem framePrimitive_result (w : FrameWord) (ph : FramePhase) (s : State) :
    (framePrimitive w ph s).result = s.result := by cases ph <;> rfl

theorem framePrimitive_pstate (w : FrameWord) (ph : FramePhase) (s : State) :
    (framePrimitive w ph s).pstate = s.pstate := by cases ph <;> rfl

theorem framePrimitive_k (w : FrameWord) (ph : FramePhase) (s : State) :
    (framePrimitive w ph s).k = s.k := by cases ph <;> rfl

theorem framePrimitive_polls (w : FrameWord) (ph : FramePhase) (s : State) :
    (framePrimitive w ph s).polls = s.polls := by cases ph <;> rfl

theorem framePrimitive_busy (w : FrameWord) (ph : FramePhase) (s : State) :
    (framePrimitive w ph s).env.busy = s.env.busy := by cases ph <;> rfl

theorem framePrimitive_setSeq (w : FrameWord) (ph : FramePhase) (s : State) (q : Seq) :
    framePrimitive w ph (s.setSeq q) = (framePrimitive w ph s).setSeq q := by cases ph <;> rfl

theorem framePrimitive_setSched (w : FrameWord) (ph : FramePhase) (s : State) (d : Sched) :
    framePrimitive w ph (s.setSched d) = (framePrimitive w ph s).setSched d := by cases ph <;> rfl

theorem frameSent_frame (w : FrameWord) (s : State) : BlockFrame s (frameSent w s) :=
  ((((framePrimitive_frame w _ _).trans (framePrimitive_frame w _ _)).trans (framePrimitive_frame w _ _)).trans
    (framePrimitive_frame w _ _)).trans (framePrimitive_frame w _ _)

theorem frameSent_fault (w : FrameWord) (s : State) : (frameSent w s).fault = s.fault := by
  simp only [frameSent, framePrimitive_fault]

theorem frameSent_result (w : FrameWord) (s : State) : (frameSent w s).result = s.result := by
  simp only [frameSent, framePrimitive_result]

theorem frameSent_pstate (w : FrameWord) (s : State) : (frameSent w s).pstate = s.pstate := by
  simp only [frameSent, framePrimitive_pstate]

theorem frameSent_k (w : FrameWord) (s : State) : (frameSent w s).k = s.k := by
  simp only [frameSent, framePrimitive_k]

theorem frameSent_polls (w : FrameWord) (s : State) : (frameSent w s).polls = s.polls := by
  simp only [frameSent, framePrimitive_polls]

theorem frameSent_busy (w : FrameWord) (s : State) : (frameSent w s).env.busy = s.env.busy := by
  simp only [frameSent, framePrimitive_busy]

theorem frameSent_setSeq (w : FrameWord) (s : State) (q : Seq) :
    frameSent w (s.setSeq q) = (frameSent w s).setSeq q := by
  simp only [frameSent, framePrimitive_setSeq]

/-- Inside a frame one turn runs the next primitive. -/
theorem frame_turn {s : State} {c : FrameCall} {w : FrameWord} {ph ph' : FramePhase} (hu : s.unrecorded)
    (h : s.seq = .run (.frame c w ph)) (hn : nextPhase ph = some ph') :
    BlockRun 1 s (goto (.frame c w ph') (framePrimitive w ph s)) := .one hu.2 fun d => by
  have h' : (s.setSched d).seq = .run (.frame c w ph) := h
  unfold blockStep fetch
  rw [State.setSched_fault, hu.1, h']
  simp only [exec_in_frame h', frameStep, hn, framePrimitive_setSched]
  rfl

/-- The frame's last turn goes on with the request. -/
theorem frame_last_turn {s : State} {c : FrameCall} {w : FrameWord} (hu : s.unrecorded)
    (h : s.seq = .run (.frame c w .deselect)) : BlockRun 1 s (afterFrame c (framePrimitive w .deselect s)) :=
  .one hu.2 fun d => by
    have h' : (s.setSched d).seq = .run (.frame c w .deselect) := h
    unfold blockStep fetch
    rw [State.setSched_fault, hu.1, h']
    simp only [exec_in_frame h', frameStep, nextPhase, framePrimitive_setSched, afterFrame_setSched]

end Sys2Proof.Machine
end

