-- ==== Sys2Proof/Tests/Slice0.lean ====
section
/-! SUPPORT. The model's own tests. Expected values come from spec/95_test_vectors.md and the rules it names; the
configuration is `TC` of its §1. The last part holds, for every obligation with hypotheses, states and operands that meet
them. -/

namespace Sys2Proof.Tests

open Sys2Proof.Machine

/-- `TC-A` of 95_test_vectors.md §1. -/
def tc : Cfg where
  width := 4
  height := 2
  nibble := ⟨0x0, 0x1, 0x2, 0x3, 0x4, 0x5, 0x6, 0x7⟩
  code8 := ⟨0x00, 0xFF, 0x1C, 0x03, 0xE0, 0xFC, 0xF4, 0x92⟩
  initTable := [⟨0xA0, [0x01]⟩, ⟨0xA1, [0x02, 0x58, 0x01, 0xC0]⟩]
  cmdPowerOn := 0xB0
  cmdFrameWrite := 0xB1
  cmdRefresh := 0xB2
  cmdDeepSleep := 0xC0
  cmdSleepConfirm := 0xC1
  sleepCheckCode := 0x5A
  busyActiveLevel := ⟨1, 1, 1⟩
  busyTimeout := none
  tRstLowMin := 100000
  tRstHighMin := 100000
  tSetupMin := 5
  tPollMin := 9
  regBase := 0x40000000

/-- `TC-B`. -/
def tcB : Cfg := { tc with busyTimeout := some 3 }

/-- The bytes `vs` from address `a` on. -/
def cells (a : Nat) : List Byte → List Host.Cell
  | [] => []
  | v :: vs => (a, v) :: cells (a + 1) vs

/-- Host memory of program P2. -/
def picture : List Host.Cell := cells 0x20000000 [0xFF, 0x00, 0x1C, 0x03, 0xE0, 0xFC, 0xF4, 0xFF]

/-- A state under `TC-A` with the panel and the position given, every turn the block's, every sample not busy. -/
def at_ (p : PanelState) (q : Seq) : State :=
  { State.reset with
    pstate := p, seq := q, cfg := tc, mem := picture, latched := ⟨3, 1, 0x20000000, 8⟩,
    env := ⟨[0, 0], [0x3C, 0x3D], [2, 3], 0⟩, sched := ⟨List.replicate 60 .block, 0⟩ }

/-- The same, with a request accepted. -/
def accepted (p : PanelState) (w : Word) : State :=
  { at_ p (.run (.dispatch (requestOf (decodeReq w)))) with
    reqShadow := w, latched := latchedOf w 0x20000000 8 }

/-- A state whose host has one action left and moves next. -/
def hostAt (q : Seq) (act : HostAct) : State :=
  { at_ .idle q with host := ⟨[act], []⟩, sched := ⟨[.host], 0⟩ }

/-- The next state, or the state itself where there is none. -/
def next (o : Host.Outcome State Fault Refusal) : State :=
  match o with
  | .next s => s
  | .fault _ => State.reset
  | .refused _ => State.reset

/-! ### Well-formedness -/

theorem test_wf_refuses_reserved_op : (Instr.illegalFields 5 1 0 0).wellFormed = false := by decide
theorem test_wf_refuses_op_zero : (Instr.illegalFields 0 0 0 1).wellFormed = false := by decide
theorem test_wf_refuses_no_bad_field : (Instr.illegalFields 1 0 0 0).wellFormed = false := by decide
theorem test_wf_refuses_fill_color : (Instr.illegalFields 2 0 0xF 0).wellFormed = false := by decide
theorem test_wf_accepts_rsv0 : (Instr.illegalFields 2 1 0 0).wellFormed = true := by decide
theorem test_wf_accepts_color : (Instr.illegalFields 4 0 0xF 0).wellFormed = true := by decide
theorem test_wf_accepts_rsv1 : (Instr.illegalFields 3 0 0 0x800000).wellFormed = true := by decide

/-! ### Decoding: words written out from R301, R302 and R306 -/

theorem test_decode_init : decodeReq 0b00000000000000000000000000000001 = .init := by decide
theorem test_decode_fill_white : decodeReq 0b00000000000000000000000000010010 = .fill 0x1 := by decide
theorem test_decode_fill_eight : decodeReq 0b00000000000000000000000010000010 = .fill 0x8 := by decide
theorem test_decode_display : decodeReq 0b00000000000000000000000000000011 = .display := by decide
theorem test_decode_sleep : decodeReq 0b00000000000000000000000000000100 = .sleep := by decide
theorem test_decode_rsv0 : decodeReq 0b10000000000000000000000000000000 = .rsvOp0 0x10000000 := by decide
theorem test_decode_rsv5 : decodeReq 0b00000000000000000000000000001101 = .rsvOp5 1 := by decide
theorem test_decode_rsv6 : decodeReq 0b00000000000000000000000000000110 = .rsvOp6 0 := by decide
theorem test_decode_rsv7 : decodeReq 0b11111111111111111111111111111111 = .rsvOp7 0x1FFFFFFF := by decide
theorem test_decode_init_rsv0 : decodeReq 0b00000000000000000000000000001001 = .illegalFields 1 1 0 0 := by decide
theorem test_decode_sleep_color : decodeReq 0b00000000000000000000000011110100 = .illegalFields 4 0 0xF 0 := by decide
theorem test_decode_fill_rsv1 : decodeReq 0b00000000000000000000000100000010 = .illegalFields 2 0 0 1 := by decide
theorem test_decode_cmd : decodeFrame 0b010110001 = .cmd 0xB1 := by decide
theorem test_decode_data : decodeFrame 0b100010001 = .data 0x11 := by decide

theorem test_decode_bytes_little_endian :
    decodeBytes .req [0x12, 0x00, 0x00, 0x00, 0x99] = .ok (.fill 0x1, [0x99]) := by rfl
theorem test_decode_bytes_frame : decodeBytes .frame [0x11, 0x01] = .ok (.data 0x11, []) := by rfl
theorem test_decode_bytes_high_bits : decodeBytes .frame [0x11, 0x02] = .error .frameHighBits := by rfl
theorem test_decode_bytes_truncated : decodeBytes .req [0x12, 0x00, 0x00] = .error .truncated := by rfl
theorem test_decode_table_req : decodeTableWord 32 0x00000072 = some (.fill 0x7) := by decide
theorem test_decode_table_short : decodeTableWord 8 0x05 = some (.rsvOp5 0) := by decide
theorem test_decode_table_frame : decodeTableWord 16 0x0B1 = some (.cmd 0xB1) := by decide
theorem test_encode_fill : encode (.fill 0x7) = .req 0x00000072 := by decide
theorem test_encode_illegal : encode (.illegalFields 1 0 0 0x800000) = .req 0x80000001 := by decide
theorem test_encode_data : encode (.data 0x11) = .frame 0x111 := by decide

/-! ### The pixel encoder (95_test_vectors.md §3.3) and the status words (§3.11) -/

theorem test_encode8_table :
    [0x00, 0xFF, 0x1C, 0x03, 0xE0, 0xFC, 0xF4, 0x92].map (encode8 tc) =
      [some 0x0, some 0x1, some 0x2, some 0x3, some 0x4, some 0x5, some 0x6, some 0x7] := by decide
theorem test_encode8_unrecognised : [0x42, 0x01, 0xFE, 0x10, 0x7F].map (encode8 tc) = List.replicate 5 none := by decide
theorem test_pack : pack 0x2 0x3 = 0x23 ∧ pack 0x1 0x0 = 0x10 ∧ pack 0x0 0x1 = 0x01 := by decide
theorem test_fillByte : fillByte 0x7 = 0x77 ∧ fillByte 0xF = 0xFF := by decide
theorem test_address_wraps : (bufferAddr 0xFFFFFFFC 4).toNat = 0 ∧ bufferAddr 0xFFFFFFFC 3 = 0xFFFFFFFF := by decide
theorem test_status_reset : statusWord State.reset = 0x080 := by decide
theorem test_status_after_init : statusWord { State.reset with pstate := .awake, result := .ok } = 0x091 := by decide
theorem test_status_overrun :
    statusWord { State.reset with
      pstate := .refreshing, seq := .run (.wait .fill .hold), result := .ok, overrun := true } = 0x112 := by decide
theorem test_status_sleep_refused : statusWord { State.reset with pstate := .asleep, result := .errSequence } = 0x0A4 := by
  decide
theorem test_lines_reset : linesWord State.reset.pins 0 = 0x5 ∧ linesWord State.reset.pins 1 = 0xD := by decide

/-! ### One step of each instruction -/

/-- 95_test_vectors.md §3.2 H1: the first event, `CS_N` and `DC` unchanged. -/
theorem test_init_dispatch :
    (next (exec .init (accepted .asleep 0x00000001))).trace = [.line .rstN 0] ∧
      (next (exec .init (accepted .asleep 0x00000001))).pins = ⟨1, 0, 0⟩ ∧
      (next (exec .init (accepted .asleep 0x00000001))).pstate = .uninitialized := by decide
/-- §3.7 B1. -/
theorem test_init_wait_ends :
    (next (exec .init (at_ .uninitialized (.run (.wait .init .sample))))).pstate = .awake ∧
      (next (exec .init (at_ .uninitialized (.run (.wait .init .sample))))).polls = 0 := by decide
/-- §3.9 X1: the first event of `CMD 0xB1`. -/
theorem test_fill_white :
    (next (exec (.fill 0x1) (accepted .awake 0x00000012))).seq = .run (.frame (.fill .frameWrite) 0x0B1 .setDc) := by
  decide
/-- §3.9 X4. -/
theorem test_fill_eight :
    (next (exec (.fill 0x8) (accepted .awake 0x00000082))).trace = [.done .errColor] ∧
      statusWord (next (exec (.fill 0x8) (accepted .awake 0x00000082))) = 0x0C1 := by decide
/-- §3.8 V7: the first read. -/
theorem test_display_first_read :
    (next (exec .display (accepted .awake 0x00000003))).trace = [.memRd 0x20000000 0xFF] := by decide
/-- P2: the second pair gives `DATA 0x23`. -/
theorem test_display_packs :
    (next (exec .display { at_ .awake (.run (.read (.second 0x1C))) with k := 1 })).seq =
      .run (.frame (.display .pixel) 0x123 .select) := by decide
/-- §3.10 S1: the first event of `CMD 0xC0`. -/
theorem test_sleep_dispatch :
    (next (exec .sleep (accepted .idle 0x00000004))).seq = .run (.frame (.sleep .deepSleep) 0x0C0 .setDc) := by decide
/-- §3.10 S3. -/
theorem test_sleep_while_asleep :
    statusWord (next (exec .sleep (accepted .asleep 0x00000004))) = 0x0A4 := by decide
/-- §3.5: an illegal word in every state, before the state check. -/
theorem test_illegal_rsv0 : statusWord (next (exec (.rsvOp0 0) (accepted .uninitialized 0x00000000))) = 0x0E0 := by decide
theorem test_illegal_rsv5 : statusWord (next (exec (.rsvOp5 0) (accepted .idle 0x00000005))) = 0x0E3 := by decide
theorem test_illegal_rsv6 : statusWord (next (exec (.rsvOp6 0) (accepted .idle 0x00000006))) = 0x0E3 := by decide
theorem test_illegal_rsv7 : statusWord (next (exec (.rsvOp7 0) (accepted .idle 0x00000007))) = 0x0E3 := by decide
theorem test_illegal_fields :
    (next (exec (.illegalFields 3 0 1 0) (accepted .asleep 0x00000013))).trace = [.done .errIllegal] := by decide
/-- §3.1 F1: the exchange of `CMD 0x00`, and the received byte goes nowhere else. -/
theorem test_cmd_exchange :
    (next (exec (.cmd 0x00) (at_ .idle (.run (.frame (.fill .refresh) 0x000 .exchange))))).trace = [.xfer 0x00 0x3C] := by
  decide
/-- R465: the closing edge of the refresh frame makes the panel Refreshing. -/
theorem test_cmd_refresh_closes :
    (next (exec (.cmd 0xB2) (at_ .idle (.run (.frame (.fill .refresh) 0x0B2 .deselect))))).pstate = .refreshing := by decide
/-- §3.1 F2: `DATA` drives `DC` high. -/
theorem test_data_drives_dc :
    (next (exec (.data 0xFF) (at_ .idle (.run (.frame (.fill .pixel) 0x1FF .setDc))))).pins = ⟨1, 1, 1⟩ := by decide
/-- §3.10 S1: after the check code the panel is Asleep. -/
theorem test_data_check_code :
    (next (exec (.data 0x5A) (at_ .idle (.run (.frame (.sleep .checkCode) 0x15A .deselect))))).pstate = .asleep := by decide

/-! ### The host port (95_test_vectors.md §3.11) -/

theorem test_host_reads_status : (next (step (hostAt .ready (.read 4 0x4000000C)))).host.reads = [0x083] := by decide
theorem test_host_status_write_ignored :
    (next (step (hostAt .ready (.write 4 0x4000000C 0xFFFFFFFF)))).pstate = .idle := by decide
theorem test_host_byte_write_refused : (next (step (hostAt .ready (.write 1 0x40000001 0)))).refusal = some .registerAccess := by
  decide
theorem test_host_half_read_refused : (next (step (hostAt .ready (.read 2 0x4000000C)))).refusal = some .registerAccess := by
  decide
theorem test_host_refusal_is_kept :
    step { next (step (hostAt .ready (.write 1 0x40000001 0))) with host := ⟨[], []⟩ } = .refused .registerAccess := by rfl
theorem test_host_below_window_is_not_the_blocks :
    (next (step (hostAt .ready (.write 4 0x3FFFFFFE 0x12)))).seq = .ready ∧
      (next (step (hostAt .ready (.write 4 0x3FFFFFFE 0x12)))).refusal = none := by decide
theorem test_host_dropped_request :
    (next (step (hostAt (.run (.hardReset .holdLow)) (.write 4 0x40000000 0x12)))).overrun = true := by decide
theorem test_host_store :
    (next (step (hostAt .ready (.store 0x20000002 0x42)))).mem =
      cells 0x20000000 [0xFF, 0x00, 0x42, 0x03, 0xE0, 0xFC, 0xF4, 0xFF] := by decide

/-! ### The words the host places -/

theorem test_fetch_req : (next (step (State.reset.withFetchWord 32 0x00000005))).result = .errIllegal := by decide
theorem test_fetch_frame : (next (step (State.reset.withFetchWord 16 0x15A))).trace = [.line .csN 0] := by decide

/-! ### Witnesses: states and operands that meet the hypotheses of the obligations -/

theorem witness_DecodeOfEncodeGivesInstrBack :
    (Instr.illegalFields 4 0 0xF 0).wellFormed = true ∧ (Instr.fill 0xF).wellFormed = true := by decide

theorem witness_RequestDecoderIsTheSpecs :
    (0x000000F2 : Word) &&& 0xFFFFFF0F = 0x2 ∧ (0x00000000 : Word) &&& 0xFFFFFF0F ≠ 0x2 ∧
    (0x000000F3 : Word) &&& 0xFFFFFF0F ≠ 0x2 ∧ (0x000000F3 : Word) ≠ 0x00000003 := by decide

theorem witness_valid : tc.Valid ∧ tcB.Valid :=
  ⟨⟨by decide, by decide, by decide, by decide, by decide, by decide, by decide, by decide⟩,
    ⟨by decide, by decide, by decide, by decide, by decide, by decide, by decide, by decide⟩⟩

/-- `EncodeEightMapsCodesToNibbles`, both clauses. -/
theorem witness_EncodeEightMapsCodesToNibbles :
    tc.Valid ∧ tc.code8.get .white = 0xFF ∧ ∀ x : Color, tc.code8.get x ≠ 0x42 :=
  ⟨witness_valid.1, rfl, fun x => by cases x <;> decide⟩

theorem witness_EncodeEightIsTotalAndInjective :
    tc.Valid ∧ encode8 tc 0xFF = some 0x1 := ⟨witness_valid.1, by decide⟩

/-- `FrameStepRunsItsPrimitive` and `FrameAppendsFiveEvents`: every point of a frame is a state's. -/
theorem witness_FrameStepRunsItsPrimitive (ph : FramePhase) :
    (at_ .idle (.run (.frame (.fill .pixel) (dataWord 0xFF) ph))).seq =
      .run (.frame (.fill .pixel) (dataWord 0xFF) ph) ∧
    (at_ .idle (.run (.frame (.fill .refresh) (cmdWord 0x00) ph))).seq =
      .run (.frame (.fill .refresh) (cmdWord 0x00) ph) := ⟨rfl, rfl⟩

theorem turns (p : PanelState) (q : Seq) (n : Nat) (h : n ≤ 60) : (at_ p q).blockTurns n :=
  ⟨List.replicate (60 - n) .block, by
    rw [List.replicate_append_replicate, Nat.add_sub_cancel' h]; rfl⟩

theorem witness_FrameAppendsFiveEvents :
    (at_ .idle (.run (.frame (.fill .pixel) 0x111 .select))).seq = .run (.frame (.fill .pixel) 0x111 .select) ∧
    (at_ .idle (.run (.frame (.fill .pixel) 0x111 .select))).unrecorded ∧
    (at_ .idle (.run (.frame (.fill .pixel) 0x111 .select))).blockTurns 5 :=
  ⟨rfl, ⟨rfl, rfl⟩, turns _ _ 5 (by decide)⟩

theorem witness_InitDispatchDrivesResetLow :
    (accepted .asleep 1).seq = .run (.dispatch (some .init)) ∧ permitted .init (accepted .asleep 1).pstate = true := by
  decide

theorem witness_HardResetHoldsThenRises :
    (at_ .uninitialized (.run (.hardReset .holdLow))).seq = .run (.hardReset .holdLow) ∧
    (at_ .uninitialized (.run (.hardReset .driveHigh))).seq = .run (.hardReset .driveHigh) ∧
    (at_ .uninitialized (.run (.hardReset .holdHigh))).seq = .run (.hardReset .holdHigh) ∧
    (initFrames tc).head? = some 0x0A0 := by decide

/-- `FillDispatchChecksTheColour`: the last recognised code and the first that is not. -/
theorem witness_FillDispatchChecksTheColour :
    (accepted .idle 0x72).seq = .run (.dispatch (some .fill)) ∧ permitted .fill (accepted .idle 0x72).pstate = true ∧
    (accepted .idle 0x72).latched.color = 0x7 ∧ tc.nibble.get .clean = 0x7 ∧
    (accepted .idle 0x82).latched.color = 0x8 ∧ ∀ x : Color, tc.nibble.get x ≠ 0x8 :=
  ⟨rfl, rfl, rfl, rfl, rfl, fun x => by cases x <;> decide⟩

theorem witness_DisplayDispatchReadsByteZero :
    (accepted .awake 3).seq = .run (.dispatch (some .display)) ∧ permitted .display (accepted .awake 3).pstate = true ∧
    (accepted .awake 3).latched.len.toNat = tc.npix ∧ 2 ≤ tc.npix ∧
    Memory.read (accepted .awake 3).mem (accepted .awake 3).latched.base.toNat = some 0xFF ∧
    encode8 tc 0xFF = some 0x1 := by decide

theorem witness_SleepDispatchOpensDeepSleepFrame :
    (accepted .idle 4).seq = .run (.dispatch (some .sleep)) ∧ permitted .sleep (accepted .idle 4).pstate = true := by
  decide

theorem witness_IllegalWordsEndWithErrIllegal :
    decodeReq 0x00000000 = .rsvOp0 0 ∧ decodeReq 0x00000013 = .illegalFields 3 0 1 0 := by decide

/-- `ForbiddenStateEndsWithErrSequence`: a request while Asleep, and `INIT` in Refreshing (log 13). -/
theorem witness_ForbiddenStateEndsWithErrSequence :
    (accepted .asleep 3).seq = .run (.dispatch (some .display)) ∧ requestOf .display = some .display ∧
    permitted .display (accepted .asleep 3).pstate = false ∧
    (accepted .refreshing 1).seq = .run (.dispatch (some .init)) ∧ requestOf .init = some .init ∧
    permitted .init (accepted .refreshing 1).pstate = false := by decide

theorem witness_WrongLengthEndsWithErrLength :
    { accepted .awake 3 with latched := ⟨3, 0, 0x20000000, 7⟩ }.seq = .run (.dispatch (some .display)) ∧
    permitted .display { accepted .awake 3 with latched := ⟨3, 0, 0x20000000, 7⟩ }.pstate = true ∧
    { accepted .awake 3 with latched := ⟨3, 0, 0x20000000, 7⟩ }.latched.len.toNat ≠ tc.npix := by decide

/-- `VALIDATE` at byte `k` of the picture; byte 8 and on are not there. -/
def validating (k : Nat) (m : List Host.Cell) : State := { at_ .awake (.run (.read .validate)) with k := k, mem := m }

/-- `ValidateReadsInAscendingOrder`: a byte before the last, the last byte, an unrecognised byte. -/
theorem witness_ValidateReadsInAscendingOrder :
    Memory.read (validating 6 picture).mem ((0x20000000 + 6) % 2 ^ 32) = some 0xF4 ∧ encode8 tc 0xF4 = some 0x6 ∧
    6 + 1 < tc.npix ∧ Memory.read (validating 7 picture).mem ((0x20000000 + 7) % 2 ^ 32) = some 0xFF ∧
    7 + 1 = tc.npix ∧ Memory.read (validating 0 [(0x20000000, 0x42)]).mem ((0x20000000 + 0) % 2 ^ 32) = some 0x42 ∧
    encode8 tc 0x42 = none := by decide

/-- `TransmissionPacksTwoBytes`: the last pair, both reads. -/
theorem witness_TransmissionPacksTwoBytes :
    { at_ .awake (.run (.read .first)) with k := 3 }.seq = .run (.read .first) ∧
    Memory.read picture ((0x20000000 + 2 * 3) % 2 ^ 32) = some 0xF4 ∧
    { at_ .awake (.run (.read (.second 0xF4))) with k := 3 }.seq = .run (.read (.second 0xF4)) ∧
    Memory.read picture ((0x20000000 + (2 * 3 + 1)) % 2 ^ 32) = some 0xFF ∧
    encode8 tc 0xF4 = some 0x6 ∧ encode8 tc 0xFF = some 0x1 := by decide

theorem witness_ChangedBufferIsRecordedAndStops :
    (at_ .awake (.run (.read (.second 0x42)))).seq = .run (.read (.second 0x42)) ∧
    Memory.read picture ((0x20000000 + (2 * 0 + 1)) % 2 ^ 32) = some 0x00 ∧ encode8 tc 0x42 = none ∧
    (next (exec .display (at_ .awake (.run (.read (.second 0x42)))))).fault = some .hostBufferChanged := by decide

/-- `UnansweredReadHasNoStep`: a host memory that answers nothing, at dispatch and at each read after it. -/
theorem witness_UnansweredReadHasNoStep :
    { accepted .awake 3 with mem := [] }.seq = .run (.dispatch (some .display)) ∧
    permitted .display { accepted .awake 3 with mem := [] }.pstate = true ∧
    { accepted .awake 3 with mem := [] }.latched.len.toNat = tc.npix ∧ 0 < tc.npix ∧
    Memory.read [] (0x20000000 : Word).toNat = none ∧
    (validating 0 []).seq = .run (.read .validate) ∧ Memory.read [] ((0x20000000 + 0) % 2 ^ 32) = none ∧
    { at_ .awake (.run (.read .first)) with mem := [] }.seq = .run (.read .first) ∧
    { at_ .awake (.run (.read (.second 0))) with mem := [] }.seq = .run (.read (.second 0)) := by decide

/-- A wait of the request `r` with `n` busy samples counted, under the bound 3. -/
def waiting (r : Request) (p : WaitPoint) (n : Nat) : State :=
  { at_ .idle (.run (.wait r p)) with cfg := tcB, polls := n, env := ⟨[1, 0], [], [0], 0⟩ }

/-- `BusySampleCountsOrTimesOut`: the sample that reaches the bound, the one before it, and the poll delay. -/
theorem witness_BusySampleCountsOrTimesOut :
    requestOf .sleep = some .sleep ∧ (waiting .sleep .sample 2).seq = .run (.wait .sleep .sample) ∧
    (waiting .sleep .sample 2).env.nextBusy = tcB.busyActiveLevel.get (siteOf .sleep) ∧ tcB.busyTimeout = some 3 ∧
    3 ≤ 2 + 1 ∧ (waiting .sleep .sample 1).polls + 1 < 3 ∧
    (waiting .sleep .hold 1).seq = .run (.wait .sleep .hold) := by decide

theorem witness_NotBusySampleEndsTheWait (r : Request) :
    (at_ .refreshing (.run (.wait r .sample))).seq = .run (.wait r .sample) ∧
    (at_ .refreshing (.run (.wait r .sample))).env.nextBusy ≠ tc.busyActiveLevel.get (siteOf r) := by
  cases r <;> decide

theorem witness_ExitWritesResultAndReady (r : Request) (code : Result) :
    (∃ i, requestOf i = some r) ∧ (at_ .idle (.run (.exit r code))).seq = .run (.exit r code) :=
  ⟨by cases r; exacts [⟨.init, rfl⟩, ⟨.fill 0, rfl⟩, ⟨.display, rfl⟩, ⟨.sleep, rfl⟩], rfl⟩

theorem witness_RequestWriteWhileReadyIsAccepted :
    (hostAt .ready (.write 4 0x40000000 0x12)).host.script = .write 4 tc.regBase 0x12 :: [] ∧
    (hostAt .ready (.write 4 0x40000000 0x12)).seq = .ready := by decide

theorem witness_RequestWriteWhileRunningIsDropped :
    (hostAt (.run (.wait .init .hold)) (.write 4 0x40000000 0x12)).host.script = .write 4 tc.regBase 0x12 :: [] ∧
    (hostAt (.run (.wait .init .hold)) (.write 4 0x40000000 0x12)).seq ≠ .ready := by decide

/-- `OtherRegisterWritesStoreOrAreIgnored` and `RegisterReadsReturnTheirWord`: the address of every offset, and the
addresses just outside the window. -/
theorem witness_offsets :
    ([0x40000000, 0x40000004, 0x40000008, 0x4000000C, 0x40000010, 0x40000014, 0x40000018, 0x4000001C] : List Word).map
      BitVec.toNat = [0x00, 0x04, 0x08, 0x0C, 0x10, 0x14, 0x18, 0x1C].map (tc.regBase.toNat + ·) ∧
    (hostAt .ready (.write 4 0x4000001C 1)).host.script = .write 4 0x4000001C 1 :: [] ∧
    (hostAt .ready (.read 4 0x40000010)).host.script = .read 4 0x40000010 :: [] ∧
    (0x3FFFFFFF : Word).toNat < tc.regBase.toNat ∧ tc.regBase.toNat + 0x1F < (0x40000020 : Word).toNat := by decide

/-- `MisshapenAccessIsRefused`: a wrong width, the last offset that is no multiple of 4, and a state with the refusal
recorded. -/
theorem witness_MisshapenAccessIsRefused :
    (hostAt .ready (.read 2 0x4000000C)).host.script = .read 2 0x4000000C :: [] ∧
    (0x4000000C : Word).toNat = tc.regBase.toNat + 0x0C ∧ (2 : Nat) ≠ 4 ∧
    (hostAt .ready (.write 4 0x4000001F 0)).host.script = .write 4 0x4000001F 0 :: [] ∧
    (0x4000001F : Word).toNat = tc.regBase.toNat + 0x1F ∧ 0x1F % 4 ≠ 0 ∧
    (next (step (hostAt .ready (.write 4 0x4000001F 0)))).refusal = some .registerAccess := by decide

theorem witness_WaitReadyPollsStatus :
    (hostAt .ready .waitReady).host.script = .waitReady :: [] ∧ (hostAt .ready .waitReady).seq = .ready ∧
    (hostAt (.run (.wait .init .hold)) .waitReady).seq ≠ .ready := by decide

theorem witness_StepRunsTheDecodedInstr (q : Seq) : (at_ .idle q).turn = .block ∧ (at_ .idle q).unrecorded :=
  ⟨rfl, rfl, rfl⟩

theorem witness_FetchWordIsRunByTheNextStep :
    decodeTableWord 32 0xFFFFFFFF = some (.rsvOp7 0x1FFFFFFF) ∧ decodeTableWord 16 0x1FF = some (.data 0xFF) ∧
    (16 : Nat) ≤ 32 ∧ State.reset.unrecorded ∧
    { State.reset with fault := some .hostBufferChanged }.refusal = none := ⟨by decide, by decide, by decide, ⟨rfl, rfl⟩, rfl⟩

/-- The invariants hold in a state inside the last data frame of a `FILL`. -/
def filling : State :=
  { accepted .awake 0x12 with
    seq := .run (.frame (.fill .refresh) 0x0B2 .exchange), k := 4, pins := ⟨0, 0, 1⟩,
    trace := .accept 0x12 :: ((0x0B1 :: List.replicate 4 0x111).flatMap frameEvents ++
      [.line .csN 0, .line .dc 0, .delay .setup 5]) }

/-- `StepKeepsBusBracketing` and `StepKeepsPanelStateWithPosition`. -/
theorem witness_StepKeepsBusBracketing : BusInv filling ∧ PanelInv filling ∧ QuietInv filling :=
  ⟨⟨by decide, by decide, show filling.pins.dc = _ by decide, by decide⟩, by decide, by decide⟩

theorem witness_StepKeepsRequestConsistent : filling.cfg.Valid ∧ RequestInv filling :=
  ⟨witness_valid.1, ⟨by decide, by decide, fun p h => by cases h; decide,
    fun p h => by cases h; exact ⟨by decide, by decide, by decide⟩, by decide⟩⟩

theorem witness_StepKeepsFramesSentInOrder : SentInv filling :=
  ⟨by decide, fun p h => by cases h; exact show framesSent filling.trace = _ by decide⟩

/-- `StepKeepsFramesSentInOrder` in a `DISPLAY`: between the two frames of program P2's first pairs. -/
def displaying : State :=
  { accepted .awake 3 with
    seq := .run (.frame (.display .pixel) 0x123 .select), k := 1, pins := ⟨1, 1, 1⟩,
    trace := .accept 3 :: [0x0B1, 0x110].flatMap frameEvents }

theorem witness_displaying_sent : SentInv displaying :=
  ⟨by decide, fun p h => by
    cases h
    exact ⟨[0x110], show framesSent displaying.trace = _ by decide, rfl, fun w hw => by
      rw [List.mem_singleton.1 hw]; exact ⟨0x1, 0x0, by decide, by decide, by decide⟩⟩⟩

/-- `ResultIsWrittenOnlyAtTheEnd` and the step-kept invariants: the step goes on. -/
theorem witness_step_filling : step filling = .next (next (step filling)) := by rfl

/-- `RejectedRequestEmitsNoBusEvent`: a rejected buffer ends with `Done(ERR_COLOR)`. -/
def rejecting : State :=
  { at_ .awake (.run (.exit .display .errColor)) with trace := [.accept 3, .memRd 0x20000000 0x42] }

theorem witness_RejectedRequestEmitsNoBusEvent :
    QuietInv rejecting ∧ PanelInv rejecting ∧ step rejecting = .next (next (step rejecting)) ∧
    (next (step rejecting)).trace = rejecting.trace ++ [.done .errColor] := ⟨by decide, by decide, rfl, by decide⟩

theorem witness_StepKeepsMemoryCanonical :
    Memory.wf filling.mem ∧ Memory.wf (hostAt .ready (.store 0 1)).mem ∧
    step (hostAt .ready (.store 0 1)) = .next (next (step (hostAt .ready (.store 0 1)))) := ⟨by decide, by decide, rfl⟩

theorem witness_MemoryReadsWhatWasStored : Memory.wf picture ∧ Memory.wf [] := by decide

theorem witness_TraceOnlyGrowsOneEventAStep :
    step filling = .next (next (step filling)) ∧ filling.turn = .block ∧ filling.seq ≠ .ready := ⟨rfl, rfl, by decide⟩

theorem witness_StepKeepsDelaysLongEnough :
    { filling with trace := [.delay .rstLow 100000, .delay .poll 9] }.trace.all (Event.longEnough tc) = true := by decide

/-- `InstrLeavesHostSideUnchanged`, `InstrWritesOnlyItsOwnLines` and `InstrLeavesResultAndCountersAlone`: each kind of
instruction goes on in some state. -/
theorem witness_InstrLeavesHostSideUnchanged :
    exec .init (accepted .idle 1) = .next (next (exec .init (accepted .idle 1))) ∧
    exec (.fill 1) (accepted .idle 0x12) = .next (next (exec (.fill 1) (accepted .idle 0x12))) ∧
    exec .display (accepted .idle 3) = .next (next (exec .display (accepted .idle 3))) ∧
    exec .sleep (accepted .idle 4) = .next (next (exec .sleep (accepted .idle 4))) ∧
    exec (.rsvOp5 0) (accepted .idle 5) = .next (next (exec (.rsvOp5 0) (accepted .idle 5))) ∧
    exec (.cmd 0xB2) filling = .next (next (exec (.cmd 0xB2) filling)) ∧
    exec (.data 0xB2) filling = .next (next (exec (.data 0xB2) filling)) := ⟨rfl, rfl, rfl, rfl, rfl, rfl, rfl⟩

/-- `PanelStateChangesOnlyByTheTable`: a step that changes the panel state. -/
theorem witness_PanelStateChangesOnlyByTheTable :
    PanelInv (at_ .refreshing (.run (.wait .fill .sample))) ∧
    step (at_ .refreshing (.run (.wait .fill .sample))) =
      .next (next (step (at_ .refreshing (.run (.wait .fill .sample))))) ∧
    (next (step (at_ .refreshing (.run (.wait .fill .sample))))).pstate ≠ .refreshing := ⟨by decide, rfl, by decide⟩

theorem witness_HostStepLeavesTheBlockAlone :
    hostStep (hostAt (.run (.wait .init .hold)) (.write 4 0x40000000 1)) =
      .next (next (hostStep (hostAt (.run (.wait .init .hold)) (.write 4 0x40000000 1)))) ∧
    (hostAt (.run (.wait .init .hold)) (.write 4 0x40000000 1)).seq ≠ .ready := ⟨rfl, by decide⟩

/-- `OverrunFollowsRequestWrites`: a dropped write sets it, an accepted one clears it. -/
theorem witness_OverrunFollowsRequestWrites :
    (hostAt (.run (.wait .init .hold)) (.write 4 0x40000000 1)).overrun = false ∧
    (next (step (hostAt (.run (.wait .init .hold)) (.write 4 0x40000000 1)))).overrun = true ∧
    { hostAt .ready (.write 4 0x40000000 1) with overrun := true }.overrun = true ∧
    (next (step { hostAt .ready (.write 4 0x40000000 1) with overrun := true })).overrun = false := by decide

/-! ### Witnesses for the whole requests: one busy sample, then a sample that is not busy -/

/-- An accepted word with the samples 1 and 0 to come. -/
def ready_to_run (p : PanelState) (w : Word) : State := { accepted p w with env := ⟨[1, 0], [], [], 0⟩ }

theorem turns_run (p : PanelState) (w : Word) (n : Nat) (h : n ≤ 60) : (ready_to_run p w).blockTurns n :=
  ⟨List.replicate (60 - n) .block, by
    rw [List.replicate_append_replicate, Nat.add_sub_cancel' h]; rfl⟩

theorem witness_InitSendsTheTableAndEndsAwake :
    (ready_to_run .asleep 1).seq = .run (.dispatch (some .init)) ∧ decodeReq (ready_to_run .asleep 1).reqShadow = .init ∧
    (ready_to_run .asleep 1).pstate ≠ .refreshing ∧ (ready_to_run .asleep 1).unrecorded ∧
    (ready_to_run .asleep 1).env.busy = List.replicate 1 tc.busyActiveLevel.powerOn ++ 0 :: [] ∧
    (0 : Level) ≠ tc.busyActiveLevel.powerOn ∧ timedOut tc 1 = false ∧
    (ready_to_run .asleep 1).blockTurns (5 * (initFrames tc).length + 2 * 1 + 6) :=
  ⟨rfl, by decide, by decide, ⟨rfl, rfl⟩, rfl, by decide, rfl, turns_run _ _ _ (by decide)⟩

theorem witness_FillSendsTheColourAndEndsIdle :
    (ready_to_run .awake 0x12).seq = .run (.dispatch (some .fill)) ∧
    decodeReq (ready_to_run .awake 0x12).reqShadow = .fill 0x1 ∧ (ready_to_run .awake 0x12).latched.color = 0x1 ∧
    (ready_to_run .awake 0x12).pstate = .awake ∧ tc.nibble.get .white = 0x1 ∧ (ready_to_run .awake 0x12).unrecorded ∧
    (ready_to_run .awake 0x12).env.busy = List.replicate 1 tc.busyActiveLevel.refresh ++ 0 :: [] ∧
    (0 : Level) ≠ tc.busyActiveLevel.refresh ∧ timedOut tc 1 = false ∧
    (ready_to_run .awake 0x12).blockTurns (5 * tc.nbytes + 2 * 1 + 12) :=
  ⟨rfl, by decide, rfl, rfl, rfl, ⟨rfl, rfl⟩, rfl, by decide, rfl, turns_run _ _ _ (by decide)⟩

/-- Program P2's picture: its bytes and their codes. -/
theorem witness_DisplaySendsThePackedBufferAndEndsIdle :
    tc.npix % 2 = 0 ∧ (ready_to_run .idle 3).seq = .run (.dispatch (some .display)) ∧
    decodeReq (ready_to_run .idle 3).reqShadow = .display ∧ (ready_to_run .idle 3).pstate = .idle ∧
    (ready_to_run .idle 3).latched.len.toNat = tc.npix ∧
    (∀ i, i < tc.npix →
      Memory.read (ready_to_run .idle 3).mem (bufferAddr (ready_to_run .idle 3).latched.base i).toNat =
        some ([0xFF, 0x00, 0x1C, 0x03, 0xE0, 0xFC, 0xF4, 0xFF].getD i 0) ∧
      encode8 tc ([0xFF, 0x00, 0x1C, 0x03, 0xE0, 0xFC, 0xF4, 0xFF].getD i 0) =
        some ([0x1, 0x0, 0x2, 0x3, 0x4, 0x5, 0x6, 0x1].getD i 0)) ∧
    (ready_to_run .idle 3).unrecorded ∧
    (ready_to_run .idle 3).env.busy = List.replicate 1 tc.busyActiveLevel.refresh ++ 0 :: [] ∧
    (0 : Level) ≠ tc.busyActiveLevel.refresh ∧ timedOut tc 1 = false ∧
    (ready_to_run .idle 3).blockTurns (tc.npix + 7 * tc.nbytes + 2 * 1 + 12) :=
  ⟨rfl, rfl, by decide, rfl, rfl, by decide, ⟨rfl, rfl⟩, rfl, by decide, rfl, turns_run _ _ _ (by decide)⟩

theorem witness_SleepSendsTheCheckCodeAndEndsAsleep :
    (ready_to_run .idle 4).seq = .run (.dispatch (some .sleep)) ∧ decodeReq (ready_to_run .idle 4).reqShadow = .sleep ∧
    (ready_to_run .idle 4).pstate = .idle ∧ (ready_to_run .idle 4).unrecorded ∧
    (ready_to_run .idle 4).env.busy = List.replicate 1 tc.busyActiveLevel.sleep ++ 0 :: [] ∧
    (0 : Level) ≠ tc.busyActiveLevel.sleep ∧ timedOut tc 1 = false ∧
    (ready_to_run .idle 4).blockTurns (2 * 1 + 17) :=
  ⟨rfl, by decide, rfl, ⟨rfl, rfl⟩, rfl, by decide, rfl, turns_run _ _ _ (by decide)⟩

/-- §3.7 B5: `Some(3)` and three busy samples. -/
theorem witness_BoundedWaitEndsWithErrTimeout :
    { waiting .fill .sample 0 with env := ⟨[1, 1, 1], [], [], 0⟩ }.seq = .run (.wait .fill .sample) ∧
    { waiting .fill .sample 0 with env := ⟨[1, 1, 1], [], [], 0⟩ }.polls = 0 ∧
    { waiting .fill .sample 0 with env := ⟨[1, 1, 1], [], [], 0⟩ }.unrecorded ∧ tcB.busyTimeout = some (2 + 1) ∧
    ([1, 1, 1] : List Level) = List.replicate (2 + 1) (tcB.busyActiveLevel.get (siteOf .fill)) ++ [] ∧
    { waiting .fill .sample 0 with env := ⟨[1, 1, 1], [], [], 0⟩ }.blockTurns (2 * 2 + 2) :=
  ⟨rfl, rfl, ⟨rfl, rfl⟩, rfl, rfl, turns .idle (.run (.wait .fill .sample)) 6 (by decide)⟩

/-- §3.7 B8, its first three samples. -/
theorem witness_UnboundedWaitGoesOnForever :
    { at_ .refreshing (.run (.wait .fill .sample)) with env := ⟨[1, 1, 1], [], [], 0⟩ }.seq =
      .run (.wait .fill .sample) ∧
    { at_ .refreshing (.run (.wait .fill .sample)) with env := ⟨[1, 1, 1], [], [], 0⟩ }.unrecorded ∧
    tc.busyTimeout = none ∧
    ([1, 1, 1] : List Level) = List.replicate 3 (tc.busyActiveLevel.get (siteOf .fill)) ++ [] ∧
    { at_ .refreshing (.run (.wait .fill .sample)) with env := ⟨[1, 1, 1], [], [], 0⟩ }.blockTurns (2 * 3) :=
  ⟨rfl, ⟨rfl, rfl⟩, rfl, rfl, turns .refreshing (.run (.wait .fill .sample)) 6 (by decide)⟩

/-- §3.8 V6: the last byte is not recognised. -/
def spoiled : State :=
  { accepted .idle 3 with mem := cells 0x20000000 [0x00, 0xFF, 0x00, 0xFF, 0x00, 0xFF, 0x00, 0x42] }

theorem witness_UnrecognisedByteEndsWithErrColor :
    spoiled.seq = .run (.dispatch (some .display)) ∧ decodeReq spoiled.reqShadow = .display ∧ spoiled.pstate = .idle ∧
    spoiled.latched.len.toNat = tc.npix ∧ 7 < tc.npix ∧
    (∀ i, i ≤ 7 → Memory.read spoiled.mem (bufferAddr spoiled.latched.base i).toNat =
      some ([0x00, 0xFF, 0x00, 0xFF, 0x00, 0xFF, 0x00, 0x42].getD i 0)) ∧
    (∀ i, i < 7 → encode8 tc ([0x00, 0xFF, 0x00, 0xFF, 0x00, 0xFF, 0x00, 0x42].getD i 0) ≠ none) ∧
    encode8 tc 0x42 = none ∧ spoiled.unrecorded ∧ spoiled.blockTurns (7 + 2) :=
  ⟨rfl, by decide, rfl, rfl, by decide, by decide, by decide, by decide, ⟨rfl, rfl⟩,
    turns .idle (.run (.dispatch (some .display))) 9 (by decide)⟩

/-- `TimeoutFormsAgreeBelowTheBound` with the bound 3: the last busy sample below it, and the poll delay and the not-busy
sample at `POLLS = 2`. -/
theorem witness_TimeoutFormsAgreeBelowTheBound :
    requestOf (.fill 1) = some .fill ∧ (waiting .fill .sample 1).seq = .run (.wait .fill .sample) ∧
    (waiting .fill .sample 1).env.nextBusy = tcB.busyActiveLevel.get (siteOf .fill) ∧
    (waiting .fill .sample 1).polls + 1 < 3 ∧ (waiting .fill .hold 2).seq = .run (.wait .fill .hold) ∧
    (waiting .fill .hold 2).polls < 3 ∧
    { waiting .fill .sample 2 with env := ⟨[0], [], [], 0⟩ }.env.nextBusy ≠ tcB.busyActiveLevel.get (siteOf .fill) := by
  decide

end Sys2Proof.Tests
end

section
/-! The words of `STATUS` and `LINES`, field by field (10_state.md R109 to R112). -/

namespace Sys2Proof.Machine

theorem bit_eq_one_iff (b : Bool) : bit b = 1 ↔ b = true := by cases b <;> decide

theorem ready_iff (s : State) : s.ready = true ↔ s.seq = .ready := by simp [State.ready]

/-- Each field of `STATUS` reads back as it was packed (R109). -/
theorem statusWord_fields (s : State) :
    (statusWord s).extractLsb' 0 3 = s.pstate.code ∧ (statusWord s).extractLsb' 3 1 = 0 ∧
    (statusWord s).extractLsb' 4 3 = s.result.code ∧ (statusWord s).extractLsb' 7 1 = bit s.ready ∧
    (statusWord s).extractLsb' 8 1 = bit s.overrun ∧ (statusWord s).extractLsb' 9 23 = 0 := by
  refine ⟨?_, ?_, ?_, ?_, ?_, ?_⟩ <;> refine BitVec.eq_of_getLsbD_eq fun i hi => ?_ <;>
    interval_cases i <;> simp [statusWord]

/-- Each field of `LINES` reads back as it was packed (R111). -/
theorem linesWord_fields (p : Pins) (busy : Level) :
    (linesWord p busy).extractLsb' 0 1 = p.csN ∧ (linesWord p busy).extractLsb' 1 1 = p.dc ∧
    (linesWord p busy).extractLsb' 2 1 = p.rstN ∧ (linesWord p busy).extractLsb' 3 1 = busy ∧
    (linesWord p busy).extractLsb' 4 28 = 0 := by
  refine ⟨?_, ?_, ?_, ?_, ?_⟩ <;> refine BitVec.eq_of_getLsbD_eq fun i hi => ?_ <;>
    interval_cases i <;> simp [linesWord]

/-- Settles O30: the fields read back, and `READY` is 1 exactly while `SEQ` is Ready. -/
theorem statusAndLinesHaveTheSpecsFields : Obligations.StatusAndLinesHaveTheSpecsFields := by
  refine ⟨rfl, rfl, fun s => ?_, linesWord_fields⟩
  obtain ⟨hstate, hzero, hresult, hready, hoverrun, hhigh⟩ := statusWord_fields s
  exact ⟨hstate, hzero, hresult, by rw [hready, bit_eq_one_iff, ready_iff], by rw [hoverrun, bit_eq_one_iff], hhigh⟩

end Sys2Proof.Machine
end

section
/-! Frames: what a turn, an instruction and a step of each agent leave alone. -/

namespace Sys2Proof.Machine

/-! ### A turn taken changes the schedule only -/

@[simp] theorem takeTurn_pstate (s : State) : s.takeTurn.pstate = s.pstate := rfl
@[simp] theorem takeTurn_seq (s : State) : s.takeTurn.seq = s.seq := rfl
@[simp] theorem takeTurn_reqShadow (s : State) : s.takeTurn.reqShadow = s.reqShadow := rfl
@[simp] theorem takeTurn_overrun (s : State) : s.takeTurn.overrun = s.overrun := rfl
@[simp] theorem takeTurn_polls (s : State) : s.takeTurn.polls = s.polls := rfl
@[simp] theorem takeTurn_cfg (s : State) : s.takeTurn.cfg = s.cfg := rfl
@[simp] theorem takeTurn_env (s : State) : s.takeTurn.env = s.env := rfl
@[simp] theorem takeTurn_host (s : State) : s.takeTurn.host = s.host := rfl

/-- A step that goes on is the step of the agent whose turn it was. -/
theorem step_agent {s t : State} (ht : step s = .next t) :
    (s.turn = .host ∧ hostStep s.takeTurn = .next t) ∨ (s.turn = .block ∧ blockStep s.takeTurn = .next t) := by
  have hr := step_next_unrefused ht
  cases h : s.turn with
  | host => exact .inl ⟨rfl, step_host hr h ▸ ht⟩
  | block => exact .inr ⟨rfl, step_block hr h ▸ ht⟩

/-! ### What no instruction changes -/

theorem afterInitWait_frame (s : State) : BlockFrame s (afterInitWait s) := by constructor <;> rfl

theorem afterRefreshWait_frame (r : Request) (s : State) : BlockFrame s (afterRefreshWait r s) := by
  constructor <;> rfl

theorem afterSleepWait_frame (s : State) : BlockFrame s (afterSleepWait s) := by constructor <;> rfl

theorem raise_frame (e : Result) (s : State) : BlockFrame s (raise e s) := by constructor <;> rfl

theorem openFrame_frame (c : FrameCall) (w : FrameWord) (s : State) : BlockFrame s (openFrame c w s) := by
  constructor <;> rfl

theorem initFirst_frame (s : State) : BlockFrame s (initFirst s) := by constructor <;> rfl

theorem fillFirst_frame (s : State) : BlockFrame s (fillFirst s) := by
  unfold fillFirst
  split
  · exact openFrame_frame _ _ s
  · exact raise_frame _ s

theorem validateRead_frame {s t : State} (ht : validateRead s = .next t) : BlockFrame s t := by
  unfold validateRead at ht
  split at ht
  · cases ht
  next b u hm =>
    obtain ⟨-, rfl⟩ := memRead_some hm
    split at ht <;> cases ht
    · exact (emit_frame _ s).trans (goto_frame _ _)
    · exact ((emit_frame _ s).trans (setK_frame _ _)).trans (validateNext_frame _)

theorem firstRead_frame {s t : State} (ht : firstRead s = .next t) : BlockFrame s t := by
  unfold firstRead at ht
  split at ht
  · cases ht
  next b u hm =>
    obtain ⟨-, rfl⟩ := memRead_some hm
    cases ht
    exact (emit_frame _ s).trans (goto_frame _ _)

theorem secondRead_frame {b0 : Byte} {s t : State} (ht : secondRead b0 s = .next t) : BlockFrame s t := by
  unfold secondRead at ht
  split at ht
  · cases ht
  next b u hm =>
    obtain ⟨-, rfl⟩ := memRead_some hm
    split at ht <;> cases ht <;> constructor <;> rfl

theorem readStep_frame {p : ReadPoint} {s t : State} (ht : readStep p s = .next t) : BlockFrame s t := by
  cases p with
  | validate => exact validateRead_frame ht
  | first => exact firstRead_frame ht
  | second b0 => exact secondRead_frame ht

theorem displayFirst_frame {s t : State} (ht : displayFirst s = .next t) : BlockFrame s t := by
  unfold displayFirst at ht
  split at ht
  · cases ht
    exact raise_frame _ s
  · split at ht
    · exact (setK_frame 0 s).trans (validateRead_frame ht)
    · cases ht
      exact (setK_frame 0 s).trans (openFrame_frame _ _ _)

/-- The state check leaves the host's side alone if the request's first step does. -/
theorem checkState_frame {r : Request} {body : State → Host.Outcome State Fault Refusal} {s t : State}
    (hb : body s = .next t → BlockFrame s t) (ht : checkState r body s = .next t) : BlockFrame s t := by
  unfold checkState at ht
  split at ht
  · exact hb ht
  · cases ht
    exact raise_frame _ s

theorem execInit_frame {s t : State} (ht : execInit s = .next t) : BlockFrame s t := by
  unfold execInit at ht
  split at ht
  · cases ht
    exact hardResetStep_frame _ s
  · cases ht
    exact waitStep_frame afterInitWait_frame _ _ s
  · cases ht
    exact exitStep_frame _ s
  · refine checkState_frame (fun h => ?_) ht
    cases h
    exact initFirst_frame s

theorem execFill_frame {n : Nibble} {s t : State} (ht : execFill n s = .next t) : BlockFrame s t := by
  unfold execFill at ht
  split at ht
  · cases ht
    exact waitStep_frame (afterRefreshWait_frame _) _ _ s
  · cases ht
    exact exitStep_frame _ s
  · refine checkState_frame (fun h => ?_) ht
    cases h
    exact fillFirst_frame s

theorem execDisplay_frame {s t : State} (ht : execDisplay s = .next t) : BlockFrame s t := by
  unfold execDisplay at ht
  split at ht
  · exact readStep_frame ht
  · cases ht
    exact waitStep_frame (afterRefreshWait_frame _) _ _ s
  · cases ht
    exact exitStep_frame _ s
  · exact checkState_frame displayFirst_frame ht

theorem execSleep_frame {s t : State} (ht : execSleep s = .next t) : BlockFrame s t := by
  unfold execSleep at ht
  split at ht
  · cases ht
    exact waitStep_frame afterSleepWait_frame _ _ s
  · cases ht
    exact exitStep_frame _ s
  · refine checkState_frame (fun h => ?_) ht
    cases h
    exact openFrame_frame _ _ s

/-- The frame of `exec`: an illegal word is a raise, and `CMD` and `DATA` run a primitive of a frame. -/
theorem exec_frame {i : Instr} {s t : State} (ht : exec i s = .next t) : BlockFrame s t := by
  cases i with
  | init => exact execInit_frame ht
  | fill n => exact execFill_frame (n := n) ht
  | display => exact execDisplay_frame ht
  | sleep => exact execSleep_frame ht
  | rsvOp0 | rsvOp5 | rsvOp6 | rsvOp7 | illegalFields =>
    cases ht
    exact raise_frame _ s
  | cmd | data =>
    cases ht
    exact frameStep_frame _ _ _ s

theorem blockStep_frame {s t : State} (ht : blockStep s = .next t) : BlockFrame s t := by
  unfold blockStep at ht
  split at ht
  · cases ht
  · split at ht
    · cases ht
      exact .refl s
    · exact exec_frame ht

/-- Settles O45: the frame of `exec`, which holds the whole of host memory. -/
theorem instrLeavesHostSideUnchanged : Obligations.InstrLeavesHostSideUnchanged := fun _ _ _ ht =>
  ⟨exec_frame ht, fun a => by rw [(exec_frame ht).mem]⟩

/-! ### What no step of the host changes -/

/-- The registers and records of the block that no step of the host writes (10_state.md R102, R110, R114). -/
structure HostFrame (s t : State) : Prop where
  pstate : t.pstate = s.pstate
  result : t.result = s.result
  pins : t.pins = s.pins
  k : t.k = s.k
  polls : t.polls = s.polls
  cfg : t.cfg = s.cfg
  fault : t.fault = s.fault

/-- What a step of the host that accepts no request leaves of the request: `SEQ`, the accepted word and its latched
operands, and the trace. -/
structure RequestFrame (s t : State) : Prop where
  seq : t.seq = s.seq
  latched : t.latched = s.latched
  reqShadow : t.reqShadow = s.reqShadow
  trace : t.trace = s.trace

theorem HostMove.hostFrame {s t : State} (h : HostMove s t) : HostFrame s t := by
  cases h with
  | read off =>
    obtain ⟨e, he⟩ := afterRead_leaves off s
    rw [he]
    constructor <;> rfl
  | poll => unfold hostPoll; split <;> constructor <;> rfl
  | rest | accept | drop | bufBase | bufLen | noEffect | refuse | store | withdraw => constructor <;> rfl

/-- The host's step accepts a word while the block is Ready, or leaves the request alone. -/
theorem HostMove.accepts_or_leaves {s t : State} (h : HostMove s t) :
    (∃ w, s.seq = .ready ∧ t = popScript (Machine.accept w s)) ∨ RequestFrame s t := by
  cases h with
  | accept a w l hs ha hr => exact .inl ⟨w, hr, rfl⟩
  | read off =>
    obtain ⟨e, he⟩ := afterRead_leaves off s
    rw [he]
    exact .inr ⟨rfl, rfl, rfl, rfl⟩
  | poll => unfold hostPoll; split <;> exact .inr ⟨rfl, rfl, rfl, rfl⟩
  | rest | drop | bufBase | bufLen | noEffect | refuse | store | withdraw => exact .inr ⟨rfl, rfl, rfl, rfl⟩

/-- Settles O49: the host's frame, and no word is accepted while a request runs. -/
theorem hostStepLeavesTheBlockAlone : Obligations.HostStepLeavesTheBlockAlone := by
  intro s t ht
  have hm := hostStep_move ht
  obtain ⟨hpstate, hresult, hpins, hk, hpolls, hcfg, hfault⟩ := hm.hostFrame
  refine ⟨hpstate, hresult, hpins, hk, hpolls, hcfg, hfault, fun hrun => ?_⟩
  obtain ⟨w, hready, -⟩ | ⟨hseq, hlatched, hshadow, htrace⟩ := hm.accepts_or_leaves
  · exact absurd hready hrun
  · exact ⟨hseq, hlatched, hshadow, htrace⟩

/-! ### `OVERRUN` -/

/-- The one address at offset 0 of the window is `REG_BASE`. -/
theorem eq_regBase_of_windowOffset_zero {c : Cfg} {a : Word} (h : windowOffset c a = some 0x00) : a = c.regBase :=
  BitVec.eq_of_toNat_eq (windowOffset_some h).1

/-- The host's step writes `OVERRUN` only by a write to `REQ`: 0 where it is accepted, 1 where it is dropped. -/
theorem HostMove.overrun_cases {s t : State} (h : HostMove s t) :
    t.overrun = s.overrun ∨
    (∃ w rest, s.host.script = .write 4 s.cfg.regBase w :: rest) ∧
      (s.seq = .ready ∧ t.overrun = false ∨ s.seq ≠ .ready ∧ t.overrun = true) := by
  cases h with
  | accept a w l hs ha hr =>
    rw [eq_regBase_of_windowOffset_zero ha] at hs
    exact .inr ⟨⟨w, l, hs⟩, .inl ⟨hr, rfl⟩⟩
  | drop a w l hs ha hr =>
    rw [eq_regBase_of_windowOffset_zero ha] at hs
    exact .inr ⟨⟨w, l, hs⟩, .inr ⟨hr, rfl⟩⟩
  | read off =>
    obtain ⟨e, he⟩ := afterRead_leaves off s
    rw [he]
    exact .inl rfl
  | poll => unfold hostPoll; split <;> exact .inl rfl
  | rest | bufBase | bufLen | noEffect | refuse | store | withdraw => exact .inl rfl

/-- Settles O51: the block never writes `OVERRUN`, and the host only by a write to `REQ`. -/
theorem overrunFollowsRequestWrites : Obligations.OverrunFollowsRequestWrites := by
  intro s t ht
  obtain ⟨hturn, hh⟩ | ⟨-, hb⟩ := step_agent ht
  · have hcases := (hostStep_move hh).overrun_cases
    simp only [takeTurn_overrun, takeTurn_host, takeTurn_cfg, takeTurn_seq] at hcases
    obtain hsame | ⟨hwrite, ⟨hready, hclear⟩ | ⟨hrun, hset⟩⟩ := hcases
    · simp +contextual [hsame]
    · simp [hclear, hturn, hready, hwrite]
    · simp [hset, hturn, hrun, hwrite]
  · have hsame : t.overrun = s.overrun := (blockStep_frame hb).overrun
    simp +contextual [hsame]

end Sys2Proof.Machine
end

section
/-! A turn of the block rests, goes on with the request, or ends it: what each does to `TRACE` and `RESULT`
(10_state.md R110, R121, R140). -/

namespace Sys2Proof.Machine

/-- A step that goes on with the request: it appends one event, and neither writes `RESULT` nor makes the block
Ready. -/
structure GoesOn (s t : State) : Prop where
  running : t.seq ≠ .ready
  result : t.result = s.result
  trace : ∃ e, t.trace = s.trace ++ [e]

/-! ### Operations that lead on to a point of a request -/

theorem goto_running (p : Point) (s : State) : (goto p s).seq ≠ .ready := by simp

theorem initSend_running (j : Nat) (s : State) : (initSend j s).seq ≠ .ready := by
  obtain ⟨w, -, h⟩ | ⟨-, h⟩ := initSend_cases j s <;> rw [h] <;> exact goto_running _ _

theorem fillSend_running (s : State) : (fillSend s).seq ≠ .ready := by
  obtain ⟨-, h⟩ | ⟨-, h⟩ := fillSend_cases s <;> rw [h] <;> exact goto_running _ _

theorem displaySend_running (s : State) : (displaySend s).seq ≠ .ready := by
  obtain ⟨-, h⟩ | ⟨-, h⟩ := displaySend_cases s <;> rw [h] <;> exact goto_running _ _

theorem validateNext_running (s : State) : (validateNext s).seq ≠ .ready := by
  obtain ⟨-, h⟩ | ⟨-, h⟩ := validateNext_cases s <;> rw [h] <;> exact goto_running _ _

theorem afterFrame_running (c : FrameCall) (s : State) : (afterFrame c s).seq ≠ .ready := by
  cases c with
  | init j => exact initSend_running _ s
  | fill c =>
    cases c with
    | frameWrite | pixel => exact fillSend_running _
    | refresh => exact goto_running _ _
  | display c =>
    cases c with
    | frameWrite | pixel => exact displaySend_running _
    | refresh => exact goto_running _ _
  | sleep c => cases c <;> exact goto_running _ _

theorem GoesOn.of_goto {s u : State} (p : Point) {e : Event} (hr : u.result = s.result)
    (ht : u.trace = s.trace ++ [e]) : GoesOn s (goto p u) := ⟨goto_running p u, hr, e, ht⟩

theorem GoesOn.of_initSend {s u : State} (j : Nat) {e : Event} (hr : u.result = s.result)
    (ht : u.trace = s.trace ++ [e]) : GoesOn s (initSend j u) :=
  ⟨initSend_running j u, (initSend_result j u).trans hr, e, (initSend_trace j u).trans ht⟩

theorem GoesOn.of_validateNext {s u : State} {e : Event} (hr : u.result = s.result)
    (ht : u.trace = s.trace ++ [e]) : GoesOn s (validateNext u) :=
  ⟨validateNext_running u, (validateNext_result u).trans hr, e, (validateNext_trace u).trans ht⟩

theorem GoesOn.of_afterFrame {s u : State} (c : FrameCall) {e : Event} (hr : u.result = s.result)
    (ht : u.trace = s.trace ++ [e]) : GoesOn s (afterFrame c u) :=
  ⟨afterFrame_running c u, (afterFrame_result c u).trans hr, e, (afterFrame_trace c u).trans ht⟩

theorem framePrimitive_trace (w : FrameWord) (ph : FramePhase) (s : State) :
    ∃ e, (framePrimitive w ph s).trace = s.trace ++ [e] := by cases ph <;> exact ⟨_, rfl⟩

theorem hardResetStep_goesOn (p : ResetPoint) (s : State) : GoesOn s (hardResetStep p s) := by
  cases p with
  | holdLow | driveHigh => exact .of_goto _ rfl rfl
  | holdHigh => exact .of_initSend 0 rfl rfl

theorem afterWait_sample_goesOn (r : Request) (s : State) : GoesOn s (afterWait r (sampleBusy s)) := by
  cases r <;> exact .of_goto _ rfl rfl

/-- Both ways a request ends are the same writes (10_state.md R110, 45_request_port.md R506, 60_exceptions.md R610). -/
theorem exitStep_eq_raise (code : Result) (s : State) : exitStep code s = raise code s := exitStep_eq code s

/-- While Ready the block rests: every other move starts from a point of a request. -/
theorem BlockMove.eq_of_ready {s t : State} (h : BlockMove s t) (hq : s.seq = .ready) : t = s := by
  cases h with
  | rest => rfl
  | _ => simp_all

/-- A turn of the block while a request runs goes on with the request or ends it. -/
theorem BlockMove.goesOn_or_ends {s t : State} (h : BlockMove s t) (hq : s.seq ≠ .ready) :
    GoesOn s t ∨ ∃ code, t = raise code s := by
  cases h with
  | rest h => exact absurd h hq
  | illegal | forbidden | fillColor | displayLength => exact .inr ⟨_, rfl⟩
  | exit r code => exact .inr ⟨code, exitStep_eq_raise code s⟩
  | init | fill | displayEmpty | displayColor | sleep | timeout | busy | hold | validateColor | first | second =>
    exact .inl (.of_goto _ rfl rfl)
  | display | validate => exact .inl (.of_validateNext rfl rfl)
  | frame c w ph =>
    obtain ⟨e, he⟩ := framePrimitive_trace w ph s
    exact .inl (.of_goto _ (framePrimitive_result w ph s) he)
  | close c => exact .inl (.of_afterFrame c rfl rfl)
  | hardReset p => exact .inl (hardResetStep_goesOn p s)
  | notBusy r => exact .inl (afterWait_sample_goesOn r s)
  | changed => exact .inl ⟨hq, rfl, _, rfl⟩

/-- The host's step appends at most one event. -/
theorem HostMove.trace_grows {s t : State} (h : HostMove s t) : ∃ es, es.length ≤ 1 ∧ t.trace = s.trace ++ es := by
  obtain ⟨w, -, rfl⟩ | hf := h.accepts_or_leaves
  · exact ⟨[.accept w], le_rfl, rfl⟩
  · exact ⟨[], Nat.zero_le 1, by rw [hf.trace, List.append_nil]⟩

/-- A turn of the block while a request runs appends one event. -/
theorem BlockMove.trace_of_running {s t : State} (h : BlockMove s t) (hq : s.seq ≠ .ready) :
    ∃ e, t.trace = s.trace ++ [e] := by
  obtain hg | ⟨code, rfl⟩ := h.goesOn_or_ends hq
  · exact hg.trace
  · exact ⟨.done code, rfl⟩

/-- Settles O43: the host appends `Accept` or nothing, the block nothing while Ready and one event while it runs. -/
theorem traceOnlyGrowsOneEventAStep : Obligations.TraceOnlyGrowsOneEventAStep := by
  intro s t ht
  obtain ⟨hturn, hm⟩ | ⟨-, hm⟩ := step_move ht
  · exact ⟨hm.trace_grows, by simp [hturn]⟩
  · refine ⟨?_, fun _ hq => hm.trace_of_running hq⟩
    by_cases hq : s.seq = .ready
    · rw [hm.eq_of_ready hq]
      exact ⟨[], Nat.zero_le 1, (List.append_nil _).symm⟩
    · obtain ⟨e, he⟩ := hm.trace_of_running hq
      exact ⟨[e], le_rfl, he⟩

/-- Settles O50: the host's step ends no request, and of the block's only a raise or the exit does, which writes
`RESULT` and emits `Done`. -/
theorem resultIsWrittenOnlyAtTheEnd : Obligations.ResultIsWrittenOnlyAtTheEnd := by
  intro s t ht
  obtain ⟨-, hm⟩ | ⟨-, hm⟩ := step_move ht
  · refine .inl ⟨hm.hostFrame.result, fun hrun => ?_⟩
    obtain ⟨w, hready, -⟩ | hf := hm.accepts_or_leaves
    · exact absurd hready hrun
    · rwa [hf.seq]
  · by_cases hq : s.seq = .ready
    · rw [hm.eq_of_ready hq]
      exact .inl ⟨rfl, fun hrun => absurd hq hrun⟩
    · obtain hg | ⟨code, rfl⟩ := hm.goesOn_or_ends hq
      · exact .inl ⟨hg.result, fun _ => hg.running⟩
      · exact .inr ⟨hq, rfl, rfl⟩

end Sys2Proof.Machine
end

section
/-! The panel state: it goes with the position, and changes only by the table of 10_state.md R103. -/

namespace Sys2Proof.Machine

/-- A request other than `INIT` is permitted only while the panel is Awake or Idle (45_request_port.md R503). -/
theorem awakeOrIdle_of_permitted {r : Request} {p : PanelState} (hr : r ≠ .init) (h : permitted r p = true) :
    awakeOrIdle p = true := by
  cases p with
  | awake | idle => rfl
  | uninitialized | refreshing | asleep =>
    cases r with
    | init => exact absurd rfl hr
    | fill | display | sleep => cases h

theorem awakeOrIdle_iff (p : PanelState) : awakeOrIdle p = true ↔ p = .awake ∨ p = .idle := by
  simp [awakeOrIdle]

/-- Inside a frame, neither the word nor the phase matters to the panel state. -/
theorem panelAt_frame (c : FrameCall) (w w' : FrameWord) (ph ph' : FramePhase) (p : PanelState) :
    panelAt (.run (.frame c w ph)) p = panelAt (.run (.frame c w' ph')) p := by cases c <;> rfl

/-- Within a wait, the panel state does not depend on which primitive comes next. -/
theorem panelAt_wait (r : Request) (q q' : WaitPoint) (p : PanelState) :
    panelAt (.run (.wait r q)) p = panelAt (.run (.wait r q')) p := by cases r <;> rfl

theorem panelAt_exit_errTimeout (r : Request) : panelAt (.run (.exit r .errTimeout)) .uninitialized = true := by
  cases r <;> rfl

/-- No request ends while the panel refreshes. -/
theorem panelAt_ready_of_exit {r : Request} {code : Result} {p : PanelState}
    (h : panelAt (.run (.exit r code)) p = true) : panelAt .ready p = true := by
  cases p with
  | refreshing => cases r <;> cases code <;> cases h
  | uninitialized | awake | idle | asleep => rfl

/-- Where `INIT` goes on, it is still Uninitialized. -/
theorem initSend_panelInv {s : State} (j : Nat) (h : s.pstate = .uninitialized) : PanelInv (initSend j s) := by
  obtain ⟨w, -, he⟩ | ⟨-, he⟩ := initSend_cases j s <;> rw [he] <;> simp [PanelInv, panelAt, h]

theorem fillSend_panelInv {s : State} (h : awakeOrIdle s.pstate = true) : PanelInv (fillSend s) := by
  obtain ⟨-, he⟩ | ⟨-, he⟩ := fillSend_cases s <;> rw [he] <;> exact h

theorem displaySend_panelInv {s : State} (h : awakeOrIdle s.pstate = true) : PanelInv (displaySend s) := by
  obtain ⟨-, he⟩ | ⟨-, he⟩ := displaySend_cases s <;> rw [he] <;> exact h

theorem validateNext_panelInv {s : State} (h : awakeOrIdle s.pstate = true) : PanelInv (validateNext s) := by
  obtain ⟨-, he⟩ | ⟨-, he⟩ := validateNext_cases s <;> rw [he] <;> exact h

theorem afterFrame_panelInv {s : State} {c : FrameCall} {w : FrameWord} {ph : FramePhase}
    (h : panelAt (.run (.frame c w ph)) s.pstate = true) : PanelInv (afterFrame c s) := by
  cases c with
  | init j => exact initSend_panelInv _ (by simpa [panelAt] using h)
  | fill c =>
    cases c with
    | frameWrite | pixel => exact fillSend_panelInv h
    | refresh => rfl
  | display c =>
    cases c with
    | frameWrite | pixel => exact displaySend_panelInv h
    | refresh => rfl
  | sleep c =>
    cases c with
    | deepSleep | confirm => exact h
    | checkCode => rfl

theorem hardResetStep_panelInv {s : State} (p : ResetPoint) (h : s.pstate = .uninitialized) :
    PanelInv (hardResetStep p s) := by
  cases p with
  | holdLow | driveHigh => exact beq_iff_eq.2 h
  | holdHigh => exact initSend_panelInv 0 h

theorem afterWait_panelInv {s : State} {r : Request} {q : WaitPoint}
    (h : panelAt (.run (.wait r q)) s.pstate = true) : PanelInv (afterWait r s) := by
  cases r with
  | init | fill | display => rfl
  | sleep => exact h

theorem BlockMove.panelInv {s t : State} (hm : BlockMove s t) (hs : PanelInv s) : PanelInv t := by
  unfold PanelInv at hs
  cases hm with
  | rest => exact hs
  | illegal r h | forbidden r q h | fillColor r n h | displayLength r h => rw [h] at hs; exact hs
  | init => rfl
  | fill r n h hi hp | displayEmpty r h hi hp | displayColor r b h hi hp | sleep r h hi hp =>
    exact awakeOrIdle_of_permitted (by decide) hp
  | display r b n h hi hp => exact validateNext_panelInv (awakeOrIdle_of_permitted (by decide) hp)
  | frame c w ph ph' h =>
    rw [h, panelAt_frame c w w ph ph'] at hs
    rwa [PanelInv, goto_seq, goto_pstate, framePrimitive_pstate]
  | close c w h => rw [h] at hs; exact afterFrame_panelInv hs
  | hardReset p h => rw [h] at hs; exact hardResetStep_panelInv p (by simpa [panelAt] using hs)
  | notBusy r h => rw [h] at hs; exact afterWait_panelInv hs
  | timeout r => exact panelAt_exit_errTimeout r
  | busy r h | hold r h => rw [h] at hs; exact (panelAt_wait r _ _ _).trans hs
  | validate b n h => rw [h] at hs; exact validateNext_panelInv hs
  | validateColor b h | first b h | second b0 b1 hi lo h => rw [h] at hs; exact hs
  | changed => exact hs
  | exit r code h => rw [h] at hs; rw [exitStep_eq]; exact panelAt_ready_of_exit hs

/-- The host's step leaves `PSTATE`, and accepts a word only while the block is Ready. -/
theorem HostMove.panelInv {s t : State} (hm : HostMove s t) (hs : PanelInv s) : PanelInv t := by
  obtain ⟨w, hready, rfl⟩ | hf := hm.accepts_or_leaves
  · rw [PanelInv, hready] at hs
    exact hs
  · rwa [PanelInv, hf.seq, hm.hostFrame.pstate]

/-- Settles O37: every move of either agent keeps the panel state that goes with the position. -/
theorem stepKeepsPanelStateWithPosition : Obligations.StepKeepsPanelStateWithPosition := by
  intro s t hs ht
  obtain ⟨-, hm⟩ | ⟨-, hm⟩ := step_move ht
  · exact hm.panelInv hs
  · exact hm.panelInv hs

/-! ### The transition table -/

/-- A frame's end writes `PSTATE` only after the two refresh frames and the check code. -/
theorem afterFrame_pstate (c : FrameCall) (s : State) :
    (afterFrame c s).pstate = s.pstate ∨
    ((c = .fill .refresh ∨ c = .display .refresh) ∧ (afterFrame c s).pstate = .refreshing) ∨
    (c = .sleep .checkCode ∧ (afterFrame c s).pstate = .asleep) := by
  cases c with
  | init j => exact .inl (initSend_pstate _ s)
  | fill c =>
    cases c with
    | frameWrite | pixel => exact .inl (fillSend_pstate _)
    | refresh => exact .inr (.inl ⟨.inl rfl, rfl⟩)
  | display c =>
    cases c with
    | frameWrite | pixel => exact .inl (displaySend_pstate _)
    | refresh => exact .inr (.inl ⟨.inr rfl, rfl⟩)
  | sleep c =>
    cases c with
    | deepSleep | confirm => exact .inl rfl
    | checkCode => exact .inr (.inr ⟨rfl, rfl⟩)

theorem hardResetStep_pstate (p : ResetPoint) (s : State) : (hardResetStep p s).pstate = s.pstate := by
  cases p with
  | holdLow | driveHigh => rfl
  | holdHigh => exact initSend_pstate 0 _

/-- The five moves of the block that write `PSTATE`. -/
theorem BlockMove.pstate_cases {s t : State} (hm : BlockMove s t) :
    t.pstate = s.pstate ∨
    (t.pstate = .uninitialized ∧ (∃ r, s.seq = .run (.dispatch r)) ∧ decodeReq s.reqShadow = .init) ∨
    (∃ r, s.seq = .run (.wait r .sample) ∧ s.env.nextBusy ≠ s.cfg.busyActiveLevel.get (siteOf r) ∧
      t.pstate = (afterWait r s).pstate) ∨
    (∃ c w, s.seq = .run (.frame c w .deselect) ∧
      ((c = .fill .refresh ∨ c = .display .refresh) ∧ t.pstate = .refreshing ∨
        c = .sleep .checkCode ∧ t.pstate = .asleep)) ∨
    (t.pstate = .uninitialized ∧ ∃ r, s.seq = .run (.wait r .sample) ∧
      s.env.nextBusy = s.cfg.busyActiveLevel.get (siteOf r) ∧ timedOut s.cfg (s.polls + 1) = true) := by
  cases hm with
  | init r h hi => exact .inr (.inl ⟨rfl, ⟨r, h⟩, hi⟩)
  | notBusy r h hb => exact .inr (.inr (.inl ⟨r, h, hb, by cases r <;> rfl⟩))
  | close c w h => exact (afterFrame_pstate c (setLine .csN 1 s)).imp_right fun hc => .inr (.inr (.inl ⟨c, w, h, hc⟩))
  | timeout r h hb ht => exact .inr (.inr (.inr (.inr ⟨rfl, r, h, hb, ht⟩)))
  | frame c w ph => exact .inl (framePrimitive_pstate w ph s)
  | hardReset p => exact .inl (hardResetStep_pstate p s)
  | display | validate => exact .inl (validateNext_pstate _)
  | exit r code => exact .inl (by rw [exitStep_eq]; rfl)
  | rest | illegal | forbidden | fill | fillColor | displayLength | displayEmpty | displayColor | sleep | busy | hold
    | validateColor | first | second | changed => exact .inl rfl

/-- The panel does not sleep during a wait. -/
theorem ne_asleep_of_wait {r : Request} {q : WaitPoint} {p : PanelState} (h : panelAt (.run (.wait r q)) p = true) :
    p ≠ .asleep := by
  rintro rfl
  cases r <;> cases h

/-- Settles O48: each move that writes `PSTATE` is a row of the table, and the panel state before it is the one that
goes with its position. -/
theorem panelStateChangesOnlyByTheTable : Obligations.PanelStateChangesOnlyByTheTable := by
  intro s t hs ht hne
  obtain ⟨-, hm⟩ | ⟨-, hm⟩ := step_move ht
  · exact absurd hm.hostFrame.pstate hne
  unfold PanelInv at hs
  have hcases := hm.pstate_cases
  simp only [takeTurn_pstate, takeTurn_seq, takeTurn_reqShadow, takeTurn_env, takeTurn_cfg, takeTurn_polls] at hcases
  obtain hsame | hinit | ⟨r, hq, hb, hp⟩ | ⟨c, w, hq, hc⟩ | ⟨hp, r, hq, hb, htime⟩ := hcases
  · exact absurd hsame hne
  · exact .inl hinit
  · rw [hq] at hs
    cases r with
    | init => exact .inr (.inl ⟨by simpa [panelAt] using hs, hp, hq, hb⟩)
    | fill => exact .inr (.inr (.inr (.inl ⟨by simpa [panelAt] using hs, hp, .inl hq, hb⟩)))
    | display => exact .inr (.inr (.inr (.inl ⟨by simpa [panelAt] using hs, hp, .inr hq, hb⟩)))
    | sleep => exact absurd hp hne
  · rw [hq] at hs
    obtain ⟨rfl | rfl, hp⟩ | ⟨rfl, hp⟩ := hc
    · exact .inr (.inr (.inl ⟨(awakeOrIdle_iff _).1 hs, hp, w, .inl hq⟩))
    · exact .inr (.inr (.inl ⟨(awakeOrIdle_iff _).1 hs, hp, w, .inr hq⟩))
    · exact .inr (.inr (.inr (.inr (.inl ⟨(awakeOrIdle_iff _).1 hs, hp, w, hq⟩))))
  · rw [hq] at hs
    exact .inr (.inr (.inr (.inr (.inr ⟨ne_asleep_of_wait hs, hp, r, hq, hb, htime⟩))))

end Sys2Proof.Machine
end

section
/-! The running request: latched operands, position, frames and counters stay consistent (10_state.md R114, R120, R122,
30_encoding.md R306). -/

namespace Sys2Proof.Machine

/-! ### What `pointOk` and the invariant depend on -/

/-- `pointOk` reads the configuration, the latched operands and the two counters only. -/
theorem pointOk_congr {s t : State} (hc : t.cfg = s.cfg) (hl : t.latched = s.latched) (hk : t.k = s.k)
    (hp : t.polls = s.polls) (p : Point) : pointOk t p ↔ pointOk s p := by
  simp only [pointOk.eq_def, frameOk.eq_def, hc, hl, hk, hp]

/-- The invariant reads those fields, `SEQ` and the accepted word, and nothing else. -/
theorem RequestInv.congr {s t : State} (h : RequestInv s) (hshadow : t.reqShadow = s.reqShadow) (hseq : t.seq = s.seq)
    (hc : t.cfg = s.cfg) (hl : t.latched = s.latched) (hk : t.k = s.k) (hp : t.polls = s.polls) : RequestInv t where
  op := by rw [hl, hshadow, h.op]
  color := by rw [hl, hshadow, h.color]
  request p hq := by rw [hshadow, h.request p (hseq ▸ hq)]
  point p hq := (pointOk_congr hc hl hk hp p).2 (h.point p (hseq ▸ hq))
  k := by rw [hk, hc]; exact h.k

/-- A request that ends leaves the latched fields and the counters. -/
theorem RequestInv.raise {s : State} (h : RequestInv s) (e : Result) : RequestInv (raise e s) where
  op := h.op
  color := h.color
  request _ hq := by cases hq
  point _ hq := by cases hq
  k := h.k

/-- The latched fields are those of the accepted word, which decodes to the request `r`. -/
structure LatchedFor (r : Request) (s : State) : Prop where
  op : s.latched.op = s.reqShadow.extractLsb' 0 3
  color : s.latched.color = s.reqShadow.extractLsb' 4 4
  request : requestOf (decodeReq s.reqShadow) = some r

theorem RequestInv.latchedFor {s : State} (h : RequestInv s) {r : Request}
    (hr : requestOf (decodeReq s.reqShadow) = some r) : LatchedFor r s := ⟨h.op, h.color, hr⟩

/-- At a point of a request, the accepted word is that request's. -/
theorem RequestInv.latchedFor_at {s : State} (h : RequestInv s) {p : Point} {r : Request} (hq : s.seq = .run p)
    (hr : p.request = some r) : LatchedFor r s := h.latchedFor ((h.request p hq).symm.trans hr)

theorem LatchedFor.frame {r : Request} {s t : State} (h : LatchedFor r s) (hf : BlockFrame s t) : LatchedFor r t where
  op := by rw [hf.latched, hf.reqShadow, h.op]
  color := by rw [hf.latched, hf.reqShadow, h.color]
  request := by rw [hf.reqShadow, h.request]

/-- Going on at a point of the running request whose operands and counters are right keeps the invariant. -/
theorem LatchedFor.goto {r : Request} {s : State} {p : Point} (h : LatchedFor r s) (hr : p.request = some r)
    (hp : pointOk s p) (hk : s.k ≤ s.cfg.npix) : RequestInv (goto p s) where
  op := h.op
  color := h.color
  request _ hq := by cases hq; exact hr.trans h.request.symm
  point _ hq := by cases hq; exact (pointOk_congr rfl rfl rfl rfl p).2 hp
  k := hk

/-- Going on at another point of the same request keeps the invariant if that point's operands and counters are
right. -/
theorem RequestInv.goto {s : State} {p p' : Point} (h : RequestInv s) (hq : s.seq = .run p)
    (hr : p'.request = p.request) (hp : pointOk s p') : RequestInv (goto p' s) where
  op := h.op
  color := h.color
  request _ hq' := by cases hq'; exact hr.trans (h.request p hq)
  point _ hq' := by cases hq'; exact (pointOk_congr rfl rfl rfl rfl p').2 hp
  k := h.k

/-! ### The operations that go on -/

theorem framePrimitive_seq (w : FrameWord) (ph : FramePhase) (s : State) : (framePrimitive w ph s).seq = s.seq := by
  cases ph <;> rfl

theorem framePrimitive_requestInv {s : State} (w : FrameWord) (ph : FramePhase) (h : RequestInv s) :
    RequestInv (framePrimitive w ph s) :=
  have hf := framePrimitive_frame w ph s
  h.congr hf.reqShadow (framePrimitive_seq w ph s) hf.cfg hf.latched (framePrimitive_k w ph s)
    (framePrimitive_polls w ph s)

theorem nbytes_le_npix (c : Cfg) : c.nbytes ≤ c.npix := Nat.div_le_self _ 2

/-- `BUSY_TIMEOUT` is not `Some(0)` (00_scope.md R10(f)), so no wait has timed out before its first sample. -/
theorem timedOut_zero {c : Cfg} (hv : c.Valid) : timedOut c 0 = false := by
  unfold timedOut
  cases hn : c.busyTimeout with
  | none => rfl
  | some n =>
    have hpos : n ≠ 0 := fun h0 => hv.timeout_positive (h0 ▸ hn)
    exact decide_eq_false (by omega)

/-- A code the encoder gives is a recognised one (43_pixel_transmission.md R460). -/
theorem recognisedNibble_of_encode8 {c : Cfg} {b : Byte} {n : Nibble} (h : encode8 c b = some n) :
    recognisedNibble c n = true := by
  obtain ⟨x, hx, rfl⟩ := Option.map_eq_some_iff.1 h
  exact List.any_eq_true.2 ⟨x, List.mem_of_find?_eq_some hx, beq_self_eq_true _⟩

theorem startWait_requestInv {r : Request} {s : State} (hv : s.cfg.Valid) (h : LatchedFor r s) (hk : s.k ≤ s.cfg.npix) :
    RequestInv (startWait r s) :=
  LatchedFor.goto (s := s.setPolls 0) ⟨h.op, h.color, h.request⟩ rfl (timedOut_zero hv) hk

theorem initSend_requestInv {s : State} (j : Nat) (hv : s.cfg.Valid) (h : LatchedFor .init s) (hk : s.k ≤ s.cfg.npix) :
    RequestInv (initSend j s) := by
  obtain ⟨w, hw, he⟩ | ⟨-, he⟩ := initSend_cases j s <;> rw [he]
  · exact h.goto rfl hw hk
  · exact startWait_requestInv hv h hk

theorem fillSend_requestInv {s : State} (h : LatchedFor .fill s)
    (hc : recognisedNibble s.cfg s.latched.color = true) (hk : s.k ≤ s.cfg.nbytes) : RequestInv (fillSend s) := by
  have hn : s.k ≤ s.cfg.npix := hk.trans (nbytes_le_npix _)
  obtain ⟨hlt, he⟩ | ⟨hge, he⟩ := fillSend_cases s <;> rw [he]
  · exact h.goto rfl ⟨rfl, hlt, hc⟩ hn
  · exact h.goto rfl ⟨rfl, le_antisymm hk hge, hc⟩ hn

theorem displaySend_requestInv {s : State} (h : LatchedFor .display s) (hl : s.latched.len.toNat = s.cfg.npix)
    (hk : s.k ≤ s.cfg.nbytes) : RequestInv (displaySend s) := by
  have hn : s.k ≤ s.cfg.npix := hk.trans (nbytes_le_npix _)
  obtain ⟨hlt, he⟩ | ⟨hge, he⟩ := displaySend_cases s <;> rw [he]
  · exact h.goto rfl ⟨hlt, hl⟩ hn
  · exact h.goto rfl ⟨rfl, le_antisymm hk hge, hl⟩ hn

theorem validateNext_requestInv {s : State} (h : LatchedFor .display s) (hl : s.latched.len.toNat = s.cfg.npix)
    (hk : s.k ≤ s.cfg.npix) : RequestInv (validateNext s) := by
  obtain ⟨hlt, he⟩ | ⟨-, he⟩ := validateNext_cases s <;> rw [he]
  · exact h.goto rfl ⟨hlt, hl⟩ hk
  · exact h.goto rfl ⟨rfl, hl⟩ hk

/-- The frame that has just ended was one the request sends, so the request goes on consistently. -/
theorem afterFrame_requestInv {s : State} {c : FrameCall} {w : FrameWord} {ph : FramePhase} (hv : s.cfg.Valid)
    (h : RequestInv s) (hq : s.seq = .run (.frame c w ph)) : RequestInv (afterFrame c s) := by
  have hok : frameOk s c w := h.point _ hq
  cases c with
  | init j => exact initSend_requestInv (j + 1) hv (h.latchedFor_at hq rfl) h.k
  | fill c =>
    have hf : LatchedFor .fill s := h.latchedFor_at hq rfl
    cases c with
    | frameWrite => exact fillSend_requestInv (hf.frame (setK_frame 0 s)) hok.2 (Nat.zero_le _)
    | pixel =>
      obtain ⟨-, hlt, hc⟩ := hok
      exact fillSend_requestInv (hf.frame (setK_frame _ s)) hc hlt
    | refresh => exact startWait_requestInv hv ⟨hf.op, hf.color, hf.request⟩ h.k
  | display c =>
    have hd : LatchedFor .display s := h.latchedFor_at hq rfl
    cases c with
    | frameWrite => exact displaySend_requestInv (hd.frame (setK_frame 0 s)) hok.2 (Nat.zero_le _)
    | pixel =>
      obtain ⟨hlt, hl, -⟩ := hok
      exact displaySend_requestInv (hd.frame (setK_frame _ s)) hl hlt
    | refresh => exact startWait_requestInv hv ⟨hd.op, hd.color, hd.request⟩ h.k
  | sleep c =>
    have hs : LatchedFor .sleep s := h.latchedFor_at hq rfl
    cases c with
    | deepSleep => exact startWait_requestInv hv hs h.k
    | confirm => exact hs.goto rfl rfl h.k
    | checkCode => exact LatchedFor.goto ⟨hs.op, hs.color, hs.request⟩ rfl trivial h.k

theorem hardResetStep_requestInv {s : State} {p : ResetPoint} (hv : s.cfg.Valid) (h : RequestInv s)
    (hq : s.seq = .run (.hardReset p)) : RequestInv (hardResetStep p s) := by
  have hi : LatchedFor .init s := h.latchedFor_at hq rfl
  cases p with
  | holdLow => exact (hi.frame (waitFor_frame _ _ s)).goto rfl trivial h.k
  | driveHigh => exact (hi.frame (setLine_frame _ _ s)).goto rfl trivial h.k
  | holdHigh => exact initSend_requestInv 0 hv (hi.frame (waitFor_frame _ _ s)) h.k

theorem afterWait_requestInv {s : State} {r : Request} (h : LatchedFor r s) (hk : s.k ≤ s.cfg.npix) :
    RequestInv (afterWait r s) := by
  cases r with
  | init | fill | display => exact LatchedFor.goto ⟨h.op, h.color, h.request⟩ rfl trivial hk
  | sleep => exact h.goto rfl rfl hk

/-! ### The moves -/

/-- At dispatch the accepted word decides what runs and the checks give the operands; at every other point the block
goes on with the request of its position. -/
theorem BlockMove.requestInv {s t : State} (hm : BlockMove s t) (hv : s.cfg.Valid) (h : RequestInv s) :
    RequestInv t := by
  cases hm with
  | rest => exact h
  | illegal | forbidden | fillColor | displayLength => exact h.raise _
  | init r hq hi =>
    exact LatchedFor.goto ⟨h.op, h.color, hi ▸ rfl⟩ rfl trivial h.k
  | fill r n hq hi hp hc =>
    exact ((h.latchedFor (hi ▸ rfl)).frame (framePrimitive_frame _ _ s)).goto rfl ⟨rfl, hc⟩ h.k
  | displayEmpty r hq hi hp hl =>
    exact LatchedFor.goto ⟨h.op, h.color, hi ▸ rfl⟩ rfl ⟨rfl, hl⟩ (Nat.zero_le _)
  | display r b n hq hi hp hl h0 =>
    exact validateNext_requestInv ⟨h.op, h.color, hi ▸ rfl⟩ hl h0
  | displayColor r b hq hi =>
    exact LatchedFor.goto ⟨h.op, h.color, hi ▸ rfl⟩ rfl trivial (Nat.zero_le _)
  | sleep r hq hi =>
    exact ((h.latchedFor (hi ▸ rfl)).frame (framePrimitive_frame _ _ s)).goto rfl rfl h.k
  | frame c w ph ph' hq =>
    have hu : RequestInv (framePrimitive w ph s) := framePrimitive_requestInv w ph h
    have hqu : (framePrimitive w ph s).seq = .run (.frame c w ph) := (framePrimitive_seq w ph s).trans hq
    have hok : frameOk (framePrimitive w ph s) c w := hu.point _ hqu
    exact hu.goto hqu (by cases c <;> rfl) hok
  | close c w hq =>
    exact afterFrame_requestInv (s := setLine .csN 1 s) hv (h.congr rfl rfl rfl rfl rfl rfl) hq
  | hardReset p hq => exact hardResetStep_requestInv hv h hq
  | notBusy r hq => exact afterWait_requestInv ((h.latchedFor_at hq rfl).frame (sampleBusy_frame s)) h.k
  | timeout r hq =>
    obtain ⟨hop, hcolor, hreq⟩ := h.latchedFor_at hq rfl
    exact LatchedFor.goto ⟨hop, hcolor, hreq⟩ rfl trivial h.k
  | busy r hq hb ht =>
    obtain ⟨hop, hcolor, hreq⟩ := h.latchedFor_at hq rfl
    exact LatchedFor.goto ⟨hop, hcolor, hreq⟩ rfl ht h.k
  | hold r hq =>
    exact ((h.latchedFor_at hq rfl).frame (waitFor_frame _ _ s)).goto rfl (h.point _ hq) h.k
  | validate b n hq =>
    obtain ⟨hlt, hl⟩ := h.point _ hq
    exact validateNext_requestInv ((h.latchedFor_at hq rfl).frame ((emit_frame _ s).trans (setK_frame _ _))) hl hlt
  | validateColor b hq => exact ((h.latchedFor_at hq rfl).frame (emit_frame _ s)).goto rfl trivial h.k
  | first b hq => exact ((h.latchedFor_at hq rfl).frame (emit_frame _ s)).goto rfl (h.point _ hq) h.k
  | second b0 b1 hi lo hq hm he0 he1 =>
    obtain ⟨hlt, hl⟩ := h.point _ hq
    exact ((h.latchedFor_at hq rfl).frame (emit_frame _ s)).goto rfl
      ⟨hlt, hl, hi, lo, rfl, recognisedNibble_of_encode8 he0, recognisedNibble_of_encode8 he1⟩ h.k
  | changed => exact h.congr rfl rfl rfl rfl rfl rfl
  | exit r code => rw [exitStep_eq]; exact h.raise code

/-- Acceptance latches the operands of the word it accepts. -/
theorem accept_requestInv {s : State} (h : RequestInv s) (w : Word) : RequestInv (accept w s) where
  op := rfl
  color := rfl
  request _ hq := by cases hq; rfl
  point _ hq := by cases hq; trivial
  k := h.k

theorem HostMove.requestInv {s t : State} (hm : HostMove s t) (h : RequestInv s) : RequestInv t := by
  obtain ⟨w, -, rfl⟩ | hf := hm.accepts_or_leaves
  · exact (accept_requestInv h w).congr rfl rfl rfl rfl rfl rfl
  · have hh := hm.hostFrame
    exact h.congr hf.reqShadow hf.seq hh.cfg hf.latched hh.k hh.polls

/-- Settles O38: a word accepted by the host is latched whole, and every move of the block goes on at a point of the
request it decodes to. -/
theorem stepKeepsRequestConsistent : Obligations.StepKeepsRequestConsistent := by
  intro s t hv hs ht
  have hturn : RequestInv s.takeTurn := hs.congr rfl rfl rfl rfl rfl rfl
  obtain ⟨-, hm⟩ | ⟨-, hm⟩ := step_move ht
  · exact hm.requestInv hturn
  · exact hm.requestInv hv hturn

end Sys2Proof.Machine
end

section
/-! Host memory: what it answers, its canonical form, the reads it does not answer (20_memory.md R205 to R208), and the
register accesses that are refused (R202). -/

namespace Sys2Proof.Machine

/-! ### What memory answers after a change by the host -/

@[simp] theorem Memory.read_nil (b : Nat) : Memory.read [] b = none := rfl

/-- The first cell of an address is the one that answers. -/
@[simp] theorem Memory.read_cons (c : Host.Cell) (m : List Host.Cell) (b : Nat) :
    Memory.read (c :: m) b = if c.1 = b then some c.2 else Memory.read m b := rfl

/-- A store comes before every older cell of its address, whatever the order of the cells. -/
theorem Memory.read_write_same (m : List Host.Cell) (a : Nat) (v : Byte) :
    Memory.read (Memory.write m a v) a = some v := by
  induction m with
  | nil => simp [Memory.write]
  | cons c m ih =>
    rw [Memory.write]
    split
    next => simp
    next =>
      split
      next => simp
      next hne => rw [Memory.read_cons, if_neg (Ne.symm hne), ih]

theorem Memory.read_write_of_ne (m : List Host.Cell) {a b : Nat} (v : Byte) (h : b ≠ a) :
    Memory.read (Memory.write m a v) b = Memory.read m b := by
  induction m with
  | nil => simp [Memory.write, h.symm]
  | cons c m ih =>
    rw [Memory.write]
    split
    next => rw [Memory.read_cons, if_neg h.symm]
    next =>
      split
      next heq => rw [Memory.read_cons, Memory.read_cons, if_neg h.symm, if_neg (heq ▸ h.symm)]
      next => rw [Memory.read_cons, Memory.read_cons, ih]

/-- A withdrawal takes every cell of its address, whatever the order of the cells. -/
theorem Memory.read_erase_same (m : List Host.Cell) (a : Nat) : Memory.read (Memory.erase m a) a = none := by
  unfold Memory.erase
  induction m with
  | nil => rfl
  | cons c m ih =>
    by_cases hc : c.1 = a
    · rw [List.filter_cons_of_neg (by simpa using hc), ih]
    · rw [List.filter_cons_of_pos (by simpa using hc), Memory.read_cons, if_neg hc, ih]

theorem Memory.read_erase_of_ne (m : List Host.Cell) {a b : Nat} (h : b ≠ a) :
    Memory.read (Memory.erase m a) b = Memory.read m b := by
  unfold Memory.erase
  induction m with
  | nil => rfl
  | cons c m ih =>
    by_cases hc : c.1 = a
    · rw [List.filter_cons_of_neg (by simpa using hc), ih, Memory.read_cons, if_neg (hc ▸ h.symm)]
    · rw [List.filter_cons_of_pos (by simpa using hc), Memory.read_cons, Memory.read_cons, ih]

/-- Settles O42: the store or the withdrawal decides the answer at its own address and at no other. -/
theorem memoryReadsWhatWasStored : Obligations.MemoryReadsWhatWasStored := by
  intro m a b v _
  by_cases h : b = a
  · subst h
    simp [Memory.read_write_same, Memory.read_erase_same]
  · simp [h, Memory.read_write_of_ne, Memory.read_erase_of_ne]

/-! ### The canonical form -/

/-- The host's step stores a byte, withdraws an address, or leaves memory as it is; each keeps the form. -/
theorem HostMove.wf_mem {s t : State} (hm : HostMove s t) (h : Memory.wf s.mem) : Memory.wf t.mem := by
  cases hm with
  | store a v => exact Memory.wf_write a v h
  | withdraw a => exact Memory.wf_erase _ h
  | read off =>
    obtain ⟨e, he⟩ := afterRead_leaves off s
    rw [he]
    exact h
  | poll => unfold hostPoll; split <;> exact h
  | rest | accept | drop | bufBase | bufLen | noEffect | refuse => exact h

/-- Settles O41: the host's moves keep the form, and the frame of the block's step holds host memory. -/
theorem stepKeepsMemoryCanonical : Obligations.StepKeepsMemoryCanonical := by
  intro s t hs ht
  obtain ⟨hturn, hh⟩ | ⟨-, hb⟩ := step_agent ht
  · exact ⟨(hostStep_move hh).wf_mem hs, by simp [hturn]⟩
  · have hmem : t.mem = s.mem := (blockStep_frame hb).mem
    exact ⟨hmem ▸ hs, fun _ => hmem⟩

/-! ### A read that is not answered -/

/-- The address of byte `i` wraps at 2^32 (R206). -/
theorem bufferAddr_toNat (base : Word) (i : Nat) : (bufferAddr base i).toNat = (base.toNat + i) % 2 ^ 32 := by
  simp [bufferAddr]

/-- The index of the frame-buffer byte that a read point of `DISPLAY` reads (43_pixel_transmission.md R464, R466). -/
def readIndex (k : Nat) : ReadPoint → Nat
  | .validate => k
  | .first => 2 * k
  | .second _ => 2 * k + 1

/-- A read point whose byte is not answered has no step (R208(b)). -/
theorem readStep_unanswered {s : State} {p : ReadPoint}
    (h : Memory.read s.mem ((s.latched.base.toNat + readIndex s.k p) % 2 ^ 32) = none) :
    readStep p s = .fault .memReadUnanswered := by
  rw [← bufferAddr_toNat, ← memRead_none] at h
  cases p with
  | validate => rw [readIndex] at h; rw [readStep, validateRead, h]
  | first => rw [readIndex] at h; rw [readStep, firstRead, h]
  | second b0 => rw [readIndex] at h; rw [readStep, secondRead, h]

/-- At a read point `DISPLAY` runs that read. -/
theorem exec_display_read {s : State} {p : ReadPoint} (h : s.seq = .run (.read p)) :
    exec .display s = readStep p s := by
  simp only [exec, execDisplay, h]

/-- Dispatch of `DISPLAY` with the right length and a pixel to read runs the read of byte 0. -/
theorem exec_display_dispatch {s : State} {r : Option Request} (h : s.seq = .run (.dispatch r))
    (hp : permitted .display s.pstate = true) (hl : s.latched.len.toNat = s.cfg.npix) (h0 : 0 < s.cfg.npix) :
    exec .display s = readStep .validate (s.setK 0) := by
  simp [exec, execDisplay, h, checkState, hp, displayFirst, hl, h0, readStep]

/-- Settles O21: each of the four points runs a read, and an unanswered read has no step. -/
theorem unansweredReadHasNoStep : Obligations.UnansweredReadHasNoStep := by
  intro s
  refine ⟨fun r h hp hl h0 hm => ?_, fun h hm => ?_, fun h hm => ?_, fun b0 h hm => ?_⟩
  · rw [exec_display_dispatch h hp hl h0]
    refine readStep_unanswered ?_
    simpa [readIndex, Nat.mod_eq_of_lt s.latched.base.isLt] using hm
  · rw [exec_display_read h, readStep_unanswered hm]
  · rw [exec_display_read h, readStep_unanswered hm]
  · rw [exec_display_read h, readStep_unanswered hm]

/-! ### An access that is refused -/

theorem accessOk_eq_false {width off : Nat} (h : width ≠ 4 ∨ off % 4 ≠ 0) : accessOk width off = false := by
  simpa [accessOk, ← not_and_or] using h

/-- A write or a read in the window that is no aligned word only records the refusal (R202). -/
theorem hostStep_misshapen {s : State} {a w : Word} {width off : Nat} {rest : List HostAct}
    (hs : s.host.script = .write width a w :: rest ∨ s.host.script = .read width a :: rest)
    (ha : windowOffset s.cfg a = some off) (hk : accessOk width off = false) :
    hostStep s = .next (refuseAccess s) := by
  obtain hs | hs := hs
  · simp [hostStep, hs, hostWrite, ha, hk]
  · simp [hostStep, hs, hostRead, ha, hk]

/-- No run from a recorded refusal is safe: that of no step ends in the record, and every longer one is refused. -/
theorem not_safeRun_of_refused {u : State} {r : Refusal} (h : u.refusal = some r) (n : Nat) : ¬ SafeRun n u := by
  rintro ⟨t, hrun, -, ht⟩
  cases n with
  | zero => cases hrun; simp [h] at ht
  | succ n =>
    obtain ⟨v, hv, -⟩ := run_succ_inv n hrun
    simp [step_refused h] at hv

/-- Settles O29: the refusal is the access's one effect, and the record stops the machine. -/
theorem misshapenAccessIsRefused : Obligations.MisshapenAccessIsRefused :=
  ⟨fun _ _ _ _ _ _ hs ha ho hk => hostStep_misshapen hs (windowOffset_of_add ha ho) (accessOk_eq_false hk),
    fun _ _ hr => ⟨step_refused hr, not_safeRun_of_refused hr⟩⟩

end Sys2Proof.Machine
end

section
/-! The encoding: every word is the word of one well-formed instruction, and decoding gives that instruction back
(30_encoding.md R300 to R306). -/

namespace Sys2Proof.Machine

/-! ### The four legal forms and the illegal words -/

/-- The four values of `OP` that are not legal are the reserved ones (R302). -/
theorem legalOp_eq_false_iff : ∀ op, legalOp op = false ↔ op = 0 ∨ op = 5 ∨ op = 6 ∨ op = 7 := by decide

/-- The four legal forms of a request word, as the decoder of R305 asks for them. -/
def IsLegalForm (w : Word) : Prop :=
  w = 0x00000001 ∨ w &&& 0xFFFFFF0F = 0x00000002 ∨ w = 0x00000003 ∨ w = 0x00000004

/-- A word has a legal form when its `OP` is legal and no other field breaks the rules of R301 and R302. -/
theorem isLegalForm_iff (w : Word) : IsLegalForm w ↔ legalOp (w.extractLsb' 0 3) = true ∧
    badField (w.extractLsb' 0 3) (w.extractLsb' 3 1) (w.extractLsb' 4 4) (w.extractLsb' 8 24) = false := by
  have one : (0x00000001 : Word) = reqWord 1 0 0 0 := by decide
  have three : (0x00000003 : Word) = reqWord 3 0 0 0 := by decide
  have four : (0x00000004 : Word) = reqWord 4 0 0 0 := by decide
  simp only [IsLegalForm, fillMask_iff, one, three, four, word_eq_iff w (reqWord _ _ _ _), reqWord_op, reqWord_rsv0,
    reqWord_color, reqWord_rsv1, legalOp, badField, Bool.or_eq_true, Bool.or_eq_false_iff, Bool.and_eq_false_iff,
    beq_iff_eq, bne_eq_false_iff_eq]
  generalize w.extractLsb' 0 3 = op
  have fill : op = 1 ∨ op = 3 ∨ op = 4 → op ≠ 2 := by rintro (rfl | rfl | rfl) <;> decide
  tauto

/-- What the decoder gives for a word of none of the legal forms: its row of `ILLEGAL` (R304, R305). -/
def illegalRow (w : Word) : Instr :=
  if w.extractLsb' 0 3 = 0 then .rsvOp0 (w.extractLsb' 3 29)
  else if w.extractLsb' 0 3 = 5 then .rsvOp5 (w.extractLsb' 3 29)
  else if w.extractLsb' 0 3 = 6 then .rsvOp6 (w.extractLsb' 3 29)
  else if w.extractLsb' 0 3 = 7 then .rsvOp7 (w.extractLsb' 3 29)
  else .illegalFields (w.extractLsb' 0 3) (w.extractLsb' 3 1) (w.extractLsb' 4 4) (w.extractLsb' 8 24)

theorem decodeReq_of_not_isLegalForm {w : Word} (h : ¬ IsLegalForm w) : decodeReq w = illegalRow w := by
  obtain ⟨hinit, hfill, hdisplay, hsleep⟩ : _ ∧ _ ∧ _ ∧ _ := by simpa only [IsLegalForm, not_or] using h
  rw [decodeReq, if_neg hinit, if_neg hfill, if_neg hdisplay, if_neg hsleep, illegalRow]

theorem requestOf_illegalRow (w : Word) : requestOf (illegalRow w) = none := by
  unfold illegalRow
  repeat' split
  all_goals rfl

theorem decodeReq_fill {w : Word} (h : w &&& 0xFFFFFF0F = 0x00000002) :
    decodeReq w = .fill (w.extractLsb' 4 4) := by
  have hinit : w ≠ 0x00000001 := by rintro rfl; exact absurd h (by decide)
  rw [decodeReq, if_neg hinit, if_pos h]

theorem decodeReq_rsvWord {op : BitVec 3} (rest : BitVec 29) (h : legalOp op = false) :
    decodeReq (rsvWord op rest) = illegalRow (rsvWord op rest) :=
  decodeReq_of_not_isLegalForm (by simp [isLegalForm_iff, rsvWord_op, h])

theorem decodeReq_badField {op : BitVec 3} {rsv0 : BitVec 1} {color : Nibble} {rsv1 : BitVec 24}
    (hop : legalOp op = true) (hbad : badField op rsv0 color rsv1 = true) :
    decodeReq (reqWord op rsv0 color rsv1) = .illegalFields op rsv0 color rsv1 := by
  have hform : ¬ IsLegalForm (reqWord op rsv0 color rsv1) := by
    simp [isLegalForm_iff, reqWord_op, reqWord_rsv0, reqWord_color, reqWord_rsv1, hbad]
  obtain ⟨h0, h5, h6, h7⟩ : op ≠ 0 ∧ op ≠ 5 ∧ op ≠ 6 ∧ op ≠ 7 := by simpa [hop] using legalOp_eq_false_iff op
  rw [decodeReq_of_not_isLegalForm hform, illegalRow]
  simp only [reqWord_op, reqWord_rsv0, reqWord_color, reqWord_rsv1, if_neg h0, if_neg h5, if_neg h6, if_neg h7]

/-- Settles O4: each legal form is one branch of the decoder, and every other word gets its row of `ILLEGAL`. -/
theorem requestDecoderIsTheSpecs : Obligations.RequestDecoderIsTheSpecs := by
  refine fun w => ⟨?_, decodeReq_fill, ?_, ?_, fun hinit hfill hdisplay hsleep => ⟨?_, decodeReq_ne_frame w⟩⟩
  · rintro rfl; decide
  · rintro rfl; decide
  · rintro rfl; decide
  · have hform : ¬ IsLegalForm w := by simp only [IsLegalForm, not_or]; exact ⟨hinit, hfill, hdisplay, hsleep⟩
    rw [decodeReq_of_not_isLegalForm hform, requestOf_illegalRow]

/-! ### Decoding after encoding -/

theorem decodeFrame_cmdWord (b : Byte) : decodeFrame (cmdWord b) = .cmd b := by
  rw [decodeFrame, cmdWord, frameWord_dc, frameWord_byte, if_pos rfl]

theorem decodeFrame_dataWord (b : Byte) : decodeFrame (dataWord b) = .data b := by
  rw [decodeFrame, dataWord, frameWord_dc, frameWord_byte, if_neg (by decide)]

theorem decode_encode {i : Instr} (h : i.wellFormed = true) : decode (encode i) = i := by
  cases i with
  | init | display | sleep => decide
  | fill n =>
    have hmask := (fillMask_iff (reqWord 2 0 n 0)).2 ⟨reqWord_op .., reqWord_rsv0 .., reqWord_rsv1 ..⟩
    exact (decodeReq_fill hmask).trans (by rw [reqWord_color])
  | rsvOp0 rest | rsvOp5 rest | rsvOp6 rest | rsvOp7 rest =>
    refine (decodeReq_rsvWord rest (by decide)).trans ?_
    simp [illegalRow, rsvWord_op, rsvWord_rest]
  | illegalFields op rsv0 color rsv1 =>
    obtain ⟨hop, hbad⟩ := Bool.and_eq_true_iff.1 h
    exact decodeReq_badField hop hbad
  | cmd b => exact decodeFrame_cmdWord b
  | data b => exact decodeFrame_dataWord b

/-- Settles O1: each row of the encoder is decoded by its own branch. -/
theorem decodeOfEncodeGivesInstrBack : Obligations.DecodeOfEncodeGivesInstrBack := fun _ h => decode_encode h

/-! ### Every word is encoded -/

theorem rsvWord_eta (w : Word) : rsvWord (w.extractLsb' 0 3) (w.extractLsb' 3 29) = w := by
  apply BitVec.eq_of_getLsbD_eq
  intro i hi
  interval_cases i <;> simp [rsvWord]

/-- Each of the four legal forms is the word of its request. -/
theorem exists_encode_of_isLegalForm {w : Word} (h : IsLegalForm w) :
    ∃ i : Instr, i.wellFormed = true ∧ encode i = .req w := by
  obtain rfl | hfill | rfl | rfl := h
  · exact ⟨.init, rfl, by decide⟩
  · obtain ⟨hop, hrsv0, hrsv1⟩ := (fillMask_iff w).1 hfill
    have hw : reqWord 2 0 (w.extractLsb' 4 4) 0 = w := by rw [← hop, ← hrsv0, ← hrsv1, reqWord_eta]
    exact ⟨.fill (w.extractLsb' 4 4), rfl, congrArg Code.req hw⟩
  · exact ⟨.display, rfl, by decide⟩
  · exact ⟨.sleep, rfl, by decide⟩

/-- A word with a reserved `OP` is the word of that `OP`'s row. -/
theorem exists_encode_of_reservedOp {w : Word} (h : legalOp (w.extractLsb' 0 3) = false) :
    ∃ i : Instr, i.wellFormed = true ∧ encode i = .req w := by
  have hw := congrArg Code.req (rsvWord_eta w)
  obtain hop | hop | hop | hop := (legalOp_eq_false_iff _).1 h <;> rw [hop] at hw
  · exact ⟨.rsvOp0 _, rfl, hw⟩
  · exact ⟨.rsvOp5 _, rfl, hw⟩
  · exact ⟨.rsvOp6 _, rfl, hw⟩
  · exact ⟨.rsvOp7 _, rfl, hw⟩

/-- A word with a legal `OP` and none of the legal forms has a bad field, so it is a word of `ILLEGAL_FIELDS`. -/
theorem exists_encode_of_legalOp {w : Word} (hop : legalOp (w.extractLsb' 0 3) = true) (hform : ¬ IsLegalForm w) :
    ∃ i : Instr, i.wellFormed = true ∧ encode i = .req w := by
  simp only [isLegalForm_iff, hop, true_and, Bool.not_eq_false] at hform
  exact ⟨.illegalFields _ _ _ _, Bool.and_eq_true_iff.2 ⟨hop, hform⟩, congrArg Code.req (reqWord_eta w)⟩

/-- The encoder reaches every word of both formats from a well-formed instruction. -/
theorem exists_encode (c : Code) : ∃ i : Instr, i.wellFormed = true ∧ encode i = c := by
  cases c with
  | frame w =>
    obtain ⟨b, -, hw⟩ | ⟨b, -, hw⟩ := decodeFrame_word w
    · exact ⟨.cmd b, rfl, congrArg Code.frame hw⟩
    · exact ⟨.data b, rfl, congrArg Code.frame hw⟩
  | req w =>
    by_cases hform : IsLegalForm w
    · exact exists_encode_of_isLegalForm hform
    · cases hop : legalOp (w.extractLsb' 0 3) with
      | false => exact exists_encode_of_reservedOp hop
      | true => exact exists_encode_of_legalOp hop hform

/-- Settles O2: a word is encoded by some well-formed instruction, and decoding gives that one back. -/
theorem everyWordIsTheWordOfItsInstr : Obligations.EveryWordIsTheWordOfItsInstr := by
  intro c
  obtain ⟨i, hwf, rfl⟩ := exists_encode c
  rw [decode_encode hwf]
  exact ⟨hwf, rfl⟩

/-- Settles O3: the decoder evaluates to the stated instruction at each of the fourteen words. -/
theorem specWordsDecodeAsTheTableSays : Obligations.SpecWordsDecodeAsTheTableSays := by
  unfold Obligations.SpecWordsDecodeAsTheTableSays
  decide

/-! ### `WAITREADY` -/

/-- A round of `WAITREADY` is a poll of `STATUS` (R315). -/
theorem hostStep_waitReady {s : State} {rest : List HostAct} (h : s.host.script = .waitReady :: rest) :
    hostStep s = .next (hostPoll s) := by
  rw [hostStep, h]

/-- While the block is Ready a poll logs the status word and goes on in the script. -/
theorem hostPoll_of_ready {s : State} (h : s.seq = .ready) : hostPoll s = popScript (logRead (statusWord s) s) :=
  if_pos ((ready_iff s).2 h)

/-- While a request runs a poll only logs the status word. -/
theorem hostPoll_of_running {s : State} (h : s.seq ≠ .ready) : hostPoll s = logRead (statusWord s) s :=
  if_neg fun hr => h ((ready_iff s).1 hr)

/-- Settles O31: a round is one poll, which takes the action off the script exactly at Ready. -/
theorem waitReadyPollsStatus : Obligations.WaitReadyPollsStatus := by
  refine fun s rest hs => ⟨fun hready => ?_, fun hrun => ?_⟩
  · have hpop : popScript (logRead (statusWord s) s) = { s with host := ⟨rest, s.host.reads ++ [statusWord s]⟩ } := by
      simp [popScript, logRead, State.setHost, hs]
    rw [hostStep_waitReady hs, hostPoll_of_ready hready, hpop]
  · rw [hostStep_waitReady hs, hostPoll_of_running hrun]
    rfl

end Sys2Proof.Machine
end

section
/-! The framer: the five primitives of one frame, one by one and as five turns of the block (40_bus_transport.md R403 to
R405, R408). -/

namespace Sys2Proof.Machine

/-- `CMD` and `DATA` are the frame instructions of their words (30_encoding.md R306). -/
theorem frameInstr_word {b : Byte} {i : Instr} {w : FrameWord} {dc : Level}
    (h : (i = .cmd b ∧ w = cmdWord b ∧ dc = 0) ∨ (i = .data b ∧ w = dataWord b ∧ dc = 1)) :
    i = decodeFrame w ∧ w.extractLsb' 8 1 = dc ∧ w.extractLsb' 0 8 = b := by
  obtain ⟨rfl, rfl, rfl⟩ | ⟨rfl, rfl, rfl⟩ := h
  · exact ⟨(decodeFrame_cmdWord b).symm, frameWord_dc .., frameWord_byte ..⟩
  · exact ⟨(decodeFrame_dataWord b).symm, frameWord_dc .., frameWord_byte ..⟩

/-- Settles O8: inside its frame `CMD` or `DATA` is the framer's step, which runs one primitive in each phase. -/
theorem frameStepRunsItsPrimitive : Obligations.FrameStepRunsItsPrimitive := by
  intro s c b i w dc hi
  obtain ⟨rfl, rfl, rfl⟩ := frameInstr_word hi
  exact ⟨fun h => exec_in_frame h, fun h => exec_in_frame h, fun h => exec_in_frame h, fun h => exec_in_frame h,
    fun h => exec_in_frame h⟩

theorem framePrimitive_unrecorded {s : State} (w : FrameWord) (ph : FramePhase) (hu : s.unrecorded) :
    (framePrimitive w ph s).unrecorded :=
  ⟨(framePrimitive_fault w ph s).trans hu.1, (framePrimitive_frame w ph s).refusal.trans hu.2⟩

/-- A turn inside a frame is the primitive of its phase, and no primitive reads `SEQ`. -/
theorem framePrimitive_turn {s : State} (c : FrameCall) (w : FrameWord) {ph ph' : FramePhase} (hu : s.unrecorded)
    (hn : nextPhase ph = some ph') : BlockRun 1 (s.setSeq (.run (.frame c w ph)))
      ((framePrimitive w ph s).setSeq (.run (.frame c w ph'))) := by
  have hturn := frame_turn (s := s.setSeq (.run (.frame c w ph))) hu rfl hn
  rwa [framePrimitive_setSeq] at hturn

/-- The last turn of a frame is its last primitive, and what the request does then does not read `SEQ` either. -/
theorem deselect_turn {s : State} (c : FrameCall) (w : FrameWord) (hu : s.unrecorded) :
    BlockRun 1 (s.setSeq (.run (.frame c w .deselect))) (afterFrame c (framePrimitive w .deselect s)) := by
  have hturn := frame_last_turn (s := s.setSeq (.run (.frame c w .deselect))) hu rfl
  rwa [framePrimitive_setSeq, afterFrame_setSeq] at hturn

/-- Five turns of the block from the start of a frame run its five primitives and go on with the request. -/
theorem frame_run {s : State} {c : FrameCall} {w : FrameWord} (hu : s.unrecorded)
    (h : s.seq = .run (.frame c w .select)) : BlockRun 5 s (afterFrame c (frameSent w s)) := by
  have hs : s.setSeq (.run (.frame c w .select)) = s := by rw [← h]; rfl
  have hselect := framePrimitive_unrecorded w .select hu
  have hsetDc := framePrimitive_unrecorded w .setDc hselect
  have hsetup := framePrimitive_unrecorded w .setup hsetDc
  have hexchange := framePrimitive_unrecorded w .exchange hsetup
  have hrun := ((((framePrimitive_turn c w hu rfl).trans (framePrimitive_turn c w hselect rfl)).trans
    (framePrimitive_turn c w hsetDc rfl)).trans (framePrimitive_turn c w hsetup rfl)).trans
      (deselect_turn c w hexchange)
  rwa [hs] at hrun

theorem frameSent_trace (w : FrameWord) (s : State) :
    (frameSent w s).trace = s.trace ++ [.line .csN 0, .line .dc (w.extractLsb' 8 1),
      .delay .setup (s.cfg.tSetupMin + s.env.nextSlack), .xfer (w.extractLsb' 0 8) s.env.takeSlack.nextRx,
      .line .csN 1] := by
  simp [frameSent, framePrimitive, setLine, waitFor, xfer]

theorem frameSent_pins (w : FrameWord) (s : State) :
    (frameSent w s).pins = ⟨1, w.extractLsb' 8 1, s.pins.rstN⟩ := rfl

/-- Settles O9: after the five primitives the request goes on without an event or a line, and neither touches the
host's side. -/
theorem frameAppendsFiveEvents : Obligations.FrameAppendsFiveEvents := by
  intro s c w hq hu hturns
  obtain ⟨d, hrun⟩ := (frame_run hu hq).run hturns
  obtain ⟨hshadow, hbase, hlen, hlatched, hoverrun, hcfg, hmem, hhost, -, hrefusal⟩ :=
    (frameSent_frame w s).trans (afterFrame_frame c _)
  refine ⟨_, hrun, ?_, ?_, ?_, hoverrun, hshadow, hbase, hlen, hlatched, hmem, hcfg, hhost, ?_, hrefusal.trans hu.2⟩
  · exact (afterFrame_trace c _).trans (frameSent_trace w s)
  · exact (afterFrame_pins c _).trans (frameSent_pins w s)
  · exact (afterFrame_result c _).trans (frameSent_result w s)
  · exact ((afterFrame_fault c _).trans (frameSent_fault w s)).trans hu.1

end Sys2Proof.Machine
end

section
/-! What each instruction leaves of the lines, of `RESULT`, of the counters and of the recorded fault
(40_bus_transport.md R404, R405, R410; 41_initialization.md R420; 45_request_port.md R504). -/

namespace Sys2Proof.Machine

/-! ### Illegal words and frames -/

/-- A word that is no legal request is the raise of `ERR_ILLEGAL`, at every point (log 14). -/
theorem exec_illegal {i : Instr} {s t : State} (hi : requestOf i = none) (hf : ∀ b, i ≠ .cmd b ∧ i ≠ .data b)
    (ht : exec i s = .next t) : t = raise .errIllegal s := by
  cases i with
  | init | fill | display | sleep => cases hi
  | rsvOp0 | rsvOp5 | rsvOp6 | rsvOp7 | illegalFields => cases ht; rfl
  | cmd b => exact absurd rfl (hf b).1
  | data b => exact absurd rfl (hf b).2

/-- What a step inside a frame leaves, and with it `CMD` and `DATA`. -/
structure FramerFrame (s t : State) : Prop where
  rstN : t.pins.rstN = s.pins.rstN
  result : t.result = s.result
  fault : t.fault = s.fault

theorem framePrimitive_rstN (w : FrameWord) (ph : FramePhase) (s : State) :
    (framePrimitive w ph s).pins.rstN = s.pins.rstN := by cases ph <;> rfl

theorem framePrimitive_framerFrame (w : FrameWord) (ph : FramePhase) (s : State) :
    FramerFrame s (framePrimitive w ph s) :=
  ⟨framePrimitive_rstN w ph s, framePrimitive_result w ph s, framePrimitive_fault w ph s⟩

/-- The request that goes on after the last primitive leaves all three. -/
theorem runFrame_framerFrame (w : FrameWord) (s : State) : FramerFrame s (runFrame w s) := by
  obtain ⟨hrstN, hresult, hfault⟩ := framePrimitive_framerFrame w (frameAt w s).2 s
  unfold runFrame frameStep
  split
  · exact ⟨hrstN, hresult, hfault⟩
  · exact ⟨(congrArg Pins.rstN (afterFrame_pins _ _)).trans hrstN, (afterFrame_result _ _).trans hresult,
      (afterFrame_fault _ _).trans hfault⟩

/-! ### Operations that write at most one line -/

/-- Of the three lines, at most `l` is written. -/
def WritesOnly (l : Line) (s t : State) : Prop := ∃ v, t.pins = s.pins.set l v

/-- Where no line is written, each keeps its own level. -/
theorem WritesOnly.of_pins_eq {s t : State} (l : Line) (h : t.pins = s.pins) : WritesOnly l s t := by
  cases l with
  | csN => exact ⟨s.pins.csN, h⟩
  | dc => exact ⟨s.pins.dc, h⟩
  | rstN => exact ⟨s.pins.rstN, h⟩

theorem WritesOnly.rstN_eq {s t : State} (h : WritesOnly .csN s t) : t.pins.rstN = s.pins.rstN := by
  obtain ⟨v, hv⟩ := h
  rw [hv]
  rfl

/-- What an operation leaves that writes at most the line `l`, moves no loop and reads no byte. -/
structure LineFrame (l : Line) (s t : State) : Prop where
  pins : WritesOnly l s t
  k : t.k = s.k
  fault : t.fault = s.fault

theorem raise_lineFrame (l : Line) (e : Result) (s : State) : LineFrame l s (raise e s) :=
  ⟨.of_pins_eq l rfl, rfl, rfl⟩

theorem openFrame_lineFrame (c : FrameCall) (w : FrameWord) (s : State) : LineFrame .csN s (openFrame c w s) :=
  ⟨⟨0, rfl⟩, rfl, rfl⟩

theorem initFirst_lineFrame (s : State) : LineFrame .rstN s (initFirst s) := ⟨⟨0, rfl⟩, rfl, rfl⟩

theorem initSend_k (j : Nat) (s : State) : (initSend j s).k = s.k := by
  obtain ⟨w, -, h⟩ | ⟨-, h⟩ := initSend_cases j s <;> rw [h] <;> rfl

theorem hardResetStep_lineFrame (p : ResetPoint) (s : State) : LineFrame .rstN s (hardResetStep p s) := by
  cases p with
  | holdLow => exact ⟨.of_pins_eq _ rfl, rfl, rfl⟩
  | driveHigh => exact ⟨⟨1, rfl⟩, rfl, rfl⟩
  | holdHigh => exact ⟨.of_pins_eq _ (initSend_pins 0 _), initSend_k 0 _, initSend_fault 0 _⟩

/-- No step of a wait writes a line, not even the one that completes it. -/
theorem waitStep_lineFrame {l : Line} {r : Request} (p : WaitPoint) (s : State) :
    LineFrame l s (waitStep (afterWait r) r p s) := by
  cases p with
  | hold => exact ⟨.of_pins_eq l rfl, rfl, rfl⟩
  | sample =>
    unfold waitStep
    dsimp only
    split
    · cases r <;> exact ⟨.of_pins_eq l rfl, rfl, rfl⟩
    · split <;> exact ⟨.of_pins_eq l rfl, rfl, rfl⟩

theorem exitStep_lineFrame (l : Line) (code : Result) (s : State) : LineFrame l s (exitStep code s) := by
  rw [exitStep_eq_raise]
  exact raise_lineFrame l code s

/-- The state check is the request's first step or a raise. -/
theorem checkState_next {r : Request} {body : State → Host.Outcome State Fault Refusal} {s t : State}
    (ht : checkState r body s = .next t) : body s = .next t ∨ t = raise .errSequence s := by
  unfold checkState at ht
  split at ht
  · exact .inl ht
  · cases ht
    exact .inr rfl

/-! ### The requests -/

/-- `INIT` at its own points writes `RST_N` only. -/
theorem execInit_lineFrame {s t : State} (ht : execInit s = .next t) : LineFrame .rstN s t := by
  unfold execInit at ht
  split at ht
  · cases ht
    exact hardResetStep_lineFrame _ s
  · cases ht
    exact waitStep_lineFrame (r := .init) _ s
  · cases ht
    exact exitStep_lineFrame _ _ s
  · obtain h | rfl := checkState_next ht
    · cases h
      exact initFirst_lineFrame s
    · exact raise_lineFrame _ _ s

/-- `FILL` at its own points writes `CS_N` only. -/
theorem execFill_lineFrame {n : Nibble} {s t : State} (ht : execFill n s = .next t) : LineFrame .csN s t := by
  unfold execFill at ht
  split at ht
  · cases ht
    exact waitStep_lineFrame (r := .fill) _ s
  · cases ht
    exact exitStep_lineFrame _ _ s
  · obtain h | rfl := checkState_next ht
    · cases h
      unfold fillFirst
      split
      · exact openFrame_lineFrame _ _ s
      · exact raise_lineFrame _ _ s
    · exact raise_lineFrame _ _ s

/-- `SLEEP` at its own points writes `CS_N` only. -/
theorem execSleep_lineFrame {s t : State} (ht : execSleep s = .next t) : LineFrame .csN s t := by
  unfold execSleep at ht
  split at ht
  · cases ht
    exact waitStep_lineFrame (r := .sleep) _ s
  · cases ht
    exact exitStep_lineFrame _ _ s
  · obtain h | rfl := checkState_next ht
    · cases h
      exact openFrame_lineFrame _ _ s
    · exact raise_lineFrame _ _ s

theorem validateRead_pins {s t : State} (ht : validateRead s = .next t) : t.pins = s.pins := by
  unfold validateRead at ht
  split at ht
  · cases ht
  next b u hm =>
    obtain ⟨-, rfl⟩ := memRead_some hm
    split at ht <;> cases ht
    · rfl
    · exact validateNext_pins _

/-- A read of `DISPLAY` writes no line. -/
theorem readStep_pins {p : ReadPoint} {s t : State} (ht : readStep p s = .next t) : t.pins = s.pins := by
  cases p with
  | validate => exact validateRead_pins ht
  | first =>
    simp only [readStep, firstRead] at ht
    split at ht
    · cases ht
    next b u hm =>
      obtain ⟨-, rfl⟩ := memRead_some hm
      cases ht
      rfl
  | second b0 =>
    simp only [readStep, secondRead] at ht
    split at ht
    · cases ht
    next b u hm =>
      obtain ⟨-, rfl⟩ := memRead_some hm
      split at ht <;> cases ht <;> rfl

theorem displayFirst_writesOnly {s t : State} (ht : displayFirst s = .next t) : WritesOnly .csN s t := by
  unfold displayFirst at ht
  split at ht
  · cases ht
    exact .of_pins_eq _ rfl
  · split at ht
    · exact .of_pins_eq _ (validateRead_pins (s := s.setK 0) ht)
    · cases ht
      exact (openFrame_lineFrame _ _ (s.setK 0)).pins

/-- `DISPLAY` at its own points writes `CS_N` only. -/
theorem execDisplay_writesOnly {s t : State} (ht : execDisplay s = .next t) : WritesOnly .csN s t := by
  unfold execDisplay at ht
  split at ht
  · exact .of_pins_eq _ (readStep_pins ht)
  · cases ht
    exact (waitStep_lineFrame (r := .display) _ s).pins
  · cases ht
    exact (exitStep_lineFrame _ _ s).pins
  · obtain h | rfl := checkState_next ht
    · exact displayFirst_writesOnly h
    · exact .of_pins_eq _ rfl

/-! ### The obligations -/

/-- Settles O46: only `INIT` has `RST_N` for its line, and the other requests write `CS_N` at most. -/
theorem instrWritesOnlyItsOwnLines : Obligations.InstrWritesOnlyItsOwnLines := by
  intro i s t ht
  refine ⟨fun hne => ?_, fun hi => ?_, fun hn hf => ?_⟩
  · cases i with
    | init => exact absurd rfl hne
    | fill n => exact (execFill_lineFrame (n := n) ht).pins.rstN_eq
    | display => exact (execDisplay_writesOnly ht).rstN_eq
    | sleep => exact (execSleep_lineFrame ht).pins.rstN_eq
    | rsvOp0 | rsvOp5 | rsvOp6 | rsvOp7 | illegalFields => cases ht; rfl
    | cmd | data => cases ht; exact (runFrame_framerFrame _ s).rstN
  · subst hi
    obtain ⟨v, hv⟩ := (execInit_lineFrame ht).pins
    rw [hv]
    exact ⟨rfl, rfl⟩
  · rw [exec_illegal hn hf ht]
    rfl

/-- Settles O47: no instruction but `DISPLAY` reads a byte, and outside the frames none but `DISPLAY` moves a loop. -/
theorem instrLeavesResultAndCountersAlone : Obligations.InstrLeavesResultAndCountersAlone := by
  intro i s t ht
  refine ⟨fun b hi => ?_, fun hi => ?_, fun hn hf => ?_, fun hne => ?_⟩
  · obtain rfl | rfl := hi <;> cases ht <;> exact (runFrame_framerFrame _ s).result
  · obtain rfl | rfl | ⟨n, rfl⟩ | ⟨hn, hf⟩ := hi
    · exact (execInit_lineFrame ht).k
    · exact (execSleep_lineFrame ht).k
    · exact (execFill_lineFrame (n := n) ht).k
    · rw [exec_illegal hn hf ht]
      rfl
  · rw [exec_illegal hn hf ht]
    exact ⟨rfl, rfl, rfl⟩
  · cases i with
    | init => exact (execInit_lineFrame ht).fault
    | fill n => exact (execFill_lineFrame (n := n) ht).fault
    | display => exact absurd rfl hne
    | sleep => exact (execSleep_lineFrame ht).fault
    | rsvOp0 | rsvOp5 | rsvOp6 | rsvOp7 | illegalFields => cases ht; rfl
    | cmd | data => cases ht; exact (runFrame_framerFrame _ s).fault

end Sys2Proof.Machine
end

section
/-! The bus: every step of either agent keeps the chip-select bracketing and the lines that go with the position, and
emits no delay shorter than its minimum (40_bus_transport.md R401, R407, R410; 41_initialization.md R420). -/

namespace Sys2Proof.Machine

/-! ### The bus outside a frame -/

theorem busScan_append (tr : List Event) (e : Event) : busScan (tr ++ [e]) = busNext (busScan tr) e := by
  simp [busScan]

/-- Outside a frame: the bracketing is closed, `CS_N` is high and `RST_N` is at the level `v`. -/
structure BusClosed (v : Level) (s : State) : Prop where
  scan : busScan s.trace = .closed
  csN : s.pins.csN = 1
  rstN : s.pins.rstN = v

/-- Only the trace and the lines matter. -/
theorem BusClosed.congr {v : Level} {s t : State} (h : BusClosed v s) (ht : t.trace = s.trace) (hp : t.pins = s.pins) :
    BusClosed v t := ⟨ht ▸ h.scan, hp ▸ h.csN, hp ▸ h.rstN⟩

/-- An event that neither opens a frame nor belongs in one keeps the bus closed. -/
theorem BusClosed.grow {v : Level} {s t : State} (h : BusClosed v s) {e : Event} (he : busNext .closed e = .closed)
    (ht : t.trace = s.trace ++ [e]) (hp : t.pins = s.pins) : BusClosed v t where
  scan := by rw [ht, busScan_append, h.scan, he]
  csN := hp ▸ h.csN
  rstN := hp ▸ h.rstN

/-- An edge of `RST_N` outside a frame keeps the bus closed. -/
theorem BusClosed.setRstN {v : Level} {s : State} (h : BusClosed v s) (v' : Level) :
    BusClosed v' (setLine .rstN v' s) where
  scan := by rw [setLine_trace, busScan_append, h.scan]; rfl
  csN := h.csN
  rstN := rfl

/-- A delay outside a frame keeps the bus closed. -/
theorem BusClosed.waitFor {v : Level} {s : State} (h : BusClosed v s) (k : DelayKind) (n : Nat) :
    BusClosed v (waitFor k n s) := h.grow rfl (waitFor_trace k n s) rfl

/-- Nothing is asked of `DC` where no frame is open. -/
theorem dcSet_of_closed {s : State} (hq : busAt s.seq = .closed) : dcSet s := by
  unfold dcSet
  split <;> simp_all [busAt]

/-- At a position outside the frames, the invariant says that the bus is closed. -/
theorem busInv_iff_of_closed {s : State} (hq : busAt s.seq = .closed) : BusInv s ↔ BusClosed (rstAt s.seq) s := by
  constructor
  · intro h
    exact ⟨h.scan.trans hq, h.csN.trans (if_pos hq), h.rstN⟩
  · intro h
    exact ⟨h.scan.trans hq.symm, h.csN.trans (if_pos hq).symm, dcSet_of_closed hq, h.rstN⟩

/-- At a point outside the frames, the bus is closed. -/
theorem BusInv.closed {s : State} {p : Point} (h : BusInv s) (hq : s.seq = .run p) (hp : busAt (.run p) = .closed) :
    BusClosed (rstAt (.run p)) s := by
  rw [← hq] at hp ⊢
  exact (busInv_iff_of_closed hp).1 h

/-- Going on at a point outside the frames keeps the invariant if `RST_N` has that point's level. -/
theorem BusClosed.goto {v : Level} {s : State} {p : Point} (h : BusClosed v s) (hp : busAt (.run p) = .closed)
    (hr : rstAt (.run p) = v) : BusInv (goto p s) := by
  subst hr
  exact (busInv_iff_of_closed (s := Machine.goto p s) hp).2 (h.congr rfl rfl)

theorem BusClosed.raise {s : State} (h : BusClosed 1 s) (code : Result) : BusInv (raise code s) :=
  (busInv_iff_of_closed (s := Machine.raise code s) rfl).2 (h.grow (e := .done code) rfl rfl rfl)

/-! ### The operations that go on -/

theorem initSend_busInv {s : State} (j : Nat) (h : BusClosed 1 s) : BusInv (initSend j s) := by
  obtain ⟨w, -, he⟩ | ⟨-, he⟩ := initSend_cases j s <;> rw [he]
  · exact h.goto rfl rfl
  · exact BusClosed.goto (h.congr rfl rfl) rfl rfl

theorem fillSend_busInv {s : State} (h : BusClosed 1 s) : BusInv (fillSend s) := by
  obtain ⟨-, he⟩ | ⟨-, he⟩ := fillSend_cases s <;> rw [he] <;> exact h.goto rfl rfl

theorem displaySend_busInv {s : State} (h : BusClosed 1 s) : BusInv (displaySend s) := by
  obtain ⟨-, he⟩ | ⟨-, he⟩ := displaySend_cases s <;> rw [he] <;> exact h.goto rfl rfl

theorem validateNext_busInv {s : State} (h : BusClosed 1 s) : BusInv (validateNext s) := by
  obtain ⟨-, he⟩ | ⟨-, he⟩ := validateNext_cases s <;> rw [he] <;> exact h.goto rfl rfl

theorem afterFrame_busInv {s : State} (c : FrameCall) (h : BusClosed 1 s) : BusInv (afterFrame c s) := by
  cases c with
  | init j => exact initSend_busInv _ h
  | fill c =>
    cases c with
    | frameWrite | pixel => exact fillSend_busInv (h.congr rfl rfl)
    | refresh => exact BusClosed.goto (h.congr rfl rfl) rfl rfl
  | display c =>
    cases c with
    | frameWrite | pixel => exact displaySend_busInv (h.congr rfl rfl)
    | refresh => exact BusClosed.goto (h.congr rfl rfl) rfl rfl
  | sleep c => cases c <;> exact BusClosed.goto (h.congr rfl rfl) rfl rfl

theorem afterWait_busInv {s : State} (r : Request) (h : BusClosed 1 s) : BusInv (afterWait r s) := by
  cases r <;> exact BusClosed.goto (h.congr rfl rfl) rfl rfl

/-- Each primitive of a frame but the last takes the reader to its next place in the bracket. -/
theorem framePrimitive_scan {s : State} {c : FrameCall} {w : FrameWord} {ph ph' : FramePhase}
    (h : busScan s.trace = busAt (.run (.frame c w ph))) (hn : nextPhase ph = some ph') :
    busScan (framePrimitive w ph s).trace = busAt (.run (.frame c w ph')) := by
  cases ph with
  | select | setDc | setup | exchange =>
    cases hn
    simp [framePrimitive, busScan_append, h, busAt, busNext]
  | deselect => cases hn

/-- A frame opens only where the bus is closed. -/
theorem openFrame_busInv {s : State} (c : FrameCall) (w : FrameWord) (h : BusClosed 1 s) :
    BusInv (openFrame c w s) where
  scan := framePrimitive_scan (c := c) (ph := .select) h.scan rfl
  csN := rfl
  dc := trivial
  rstN := h.rstN

/-- Inside a frame the lines go with the phase: `CS_N` is low from the first primitive and `DC` set from the second. -/
theorem framePrimitive_busInv {s : State} {c : FrameCall} {w : FrameWord} {ph ph' : FramePhase} (h : BusInv s)
    (hq : s.seq = .run (.frame c w ph)) (hn : nextPhase ph = some ph') :
    BusInv (goto (.frame c w ph') (framePrimitive w ph s)) := by
  obtain ⟨hscan, hcsN, hdc, hrstN⟩ := h
  rw [hq] at hscan hcsN hrstN
  rw [dcSet, hq] at hdc
  have hscan' := framePrimitive_scan hscan hn
  cases ph with
  | select => cases hn; exact openFrame_busInv c w ⟨hscan, hcsN, hrstN⟩
  | setDc => cases hn; exact ⟨hscan', hcsN, rfl, hrstN⟩
  | setup | exchange => cases hn; exact ⟨hscan', hcsN, hdc, hrstN⟩
  | deselect => cases hn

/-- The last primitive of a frame closes the bracket. -/
theorem deselect_busClosed {s : State} {c : FrameCall} {w : FrameWord} (h : BusInv s)
    (hq : s.seq = .run (.frame c w .deselect)) : BusClosed 1 (setLine .csN 1 s) where
  scan := by rw [setLine_trace, busScan_append, h.scan, hq]; rfl
  csN := rfl
  rstN := by have hr := h.rstN; rw [hq] at hr; exact hr

/-- `RST_N` is low from the first edge of `HARD_RESET` to the second, and no frame is open (R420). -/
theorem hardResetStep_busInv {s : State} {p : ResetPoint} (h : BusInv s) (hq : s.seq = .run (.hardReset p)) :
    BusInv (hardResetStep p s) := by
  have hc := h.closed hq rfl
  cases p with
  | holdLow => exact (hc.waitFor .rstLow _).goto rfl rfl
  | driveHigh => exact (hc.setRstN 1).goto rfl rfl
  | holdHigh => exact initSend_busInv 0 (hc.waitFor .rstHigh _)

/-! ### The moves -/

/-- A move of the block opens or closes a frame, goes on inside one, drives `RST_N`, or leaves the bus closed. -/
theorem BlockMove.busInv {s t : State} (hm : BlockMove s t) (h : BusInv s) : BusInv t := by
  cases hm with
  | rest => exact h
  | illegal r hq | forbidden r q hq | fillColor r n hq | displayLength r hq => exact (h.closed hq rfl).raise _
  | init r hq =>
    have hc : BusClosed 1 (s.setPState .uninitialized) := (h.closed hq rfl).congr rfl rfl
    exact (hc.setRstN 0).goto rfl rfl
  | fill r n hq | sleep r hq => exact openFrame_busInv _ _ (h.closed hq rfl)
  | displayEmpty r hq => exact openFrame_busInv _ _ ((h.closed hq rfl).congr rfl rfl)
  | display r b n hq | validate b n hq =>
    exact validateNext_busInv ((h.closed hq rfl).grow (e := .memRd _ b) rfl rfl rfl)
  | displayColor r b hq | validateColor b hq | first b hq | second b0 b hi lo hq =>
    exact BusClosed.goto ((h.closed hq rfl).grow (e := .memRd _ b) rfl rfl rfl) rfl rfl
  | changed b0 b hq =>
    have hc : BusClosed (rstAt s.seq) s := (busInv_iff_of_closed (by rw [hq]; rfl)).1 h
    refine (busInv_iff_of_closed ?_).2 (hc.grow (e := .memRd _ b) rfl rfl rfl)
    rw [State.setFault_seq, State.emit_seq, hq]
    rfl
  | frame c w ph ph' hq hn => exact framePrimitive_busInv h hq hn
  | close c w hq => exact afterFrame_busInv c (deselect_busClosed h hq)
  | hardReset p hq => exact hardResetStep_busInv h hq
  | notBusy r hq => exact afterWait_busInv r ((h.closed hq rfl).grow rfl (sampleBusy_trace s) rfl)
  | timeout r hq | busy r hq =>
    exact BusClosed.goto ((h.closed hq rfl).grow (e := .poll s.env.nextBusy) rfl rfl rfl) rfl rfl
  | hold r hq => exact ((h.closed hq rfl).waitFor .poll _).goto rfl rfl
  | exit r code hq => rw [exitStep_eq]; exact (h.closed hq rfl).raise code

/-- The host writes no line, and the one event it appends is outside the frames: it accepts only while Ready. -/
theorem HostMove.busInv {s t : State} (hm : HostMove s t) (h : BusInv s) : BusInv t := by
  obtain ⟨w, hready, rfl⟩ | hf := hm.accepts_or_leaves
  · have hc : BusClosed (rstAt s.seq) s := (busInv_iff_of_closed (by rw [hready]; rfl)).1 h
    rw [hready] at hc
    exact (busInv_iff_of_closed rfl).2 (hc.grow (e := .accept w) rfl rfl rfl)
  · have hpins := hm.hostFrame.pins
    refine ⟨by rw [hf.trace, hf.seq]; exact h.scan, by rw [hpins, hf.seq]; exact h.csN, ?_,
      by rw [hpins, hf.seq]; exact h.rstN⟩
    have hdc := h.dc
    unfold dcSet at hdc ⊢
    rwa [hf.seq, hpins]

/-- Settles O36: every move of either agent leads to the reader's place that goes with the new position, with the lines
as that position says. -/
theorem stepKeepsBusBracketing : Obligations.StepKeepsBusBracketing := by
  intro s t hs ht
  have hturn : BusInv s.takeTurn := ⟨hs.scan, hs.csN, hs.dc, hs.rstN⟩
  obtain ⟨-, hm⟩ | ⟨-, hm⟩ := step_move ht
  · exact hm.busInv hturn
  · exact hm.busInv hturn

/-! ### Delays -/

/-- A delay lasts its minimum and whatever the environment adds to it (R401). -/
theorem delay_longEnough (c : Cfg) (k : DelayKind) (n : Nat) : (Event.delay k (delayMin c k + n)).longEnough c = true :=
  decide_eq_true (Nat.le_add_right _ _)

/-- The step appends nothing, or an event that is no delay too short. -/
def AppendsLongEnough (s t : State) : Prop :=
  t.trace = s.trace ∨ ∃ e, e.longEnough s.cfg = true ∧ t.trace = s.trace ++ [e]

theorem framePrimitive_longEnough (w : FrameWord) (ph : FramePhase) (s : State) :
    ∃ e, e.longEnough s.cfg = true ∧ (framePrimitive w ph s).trace = s.trace ++ [e] := by
  cases ph with
  | select | setDc | exchange | deselect => exact ⟨_, rfl, rfl⟩
  | setup => exact ⟨_, delay_longEnough s.cfg .setup _, rfl⟩

theorem hardResetStep_longEnough (p : ResetPoint) (s : State) :
    ∃ e, e.longEnough s.cfg = true ∧ (hardResetStep p s).trace = s.trace ++ [e] := by
  cases p with
  | holdLow => exact ⟨_, delay_longEnough s.cfg .rstLow _, rfl⟩
  | driveHigh => exact ⟨_, rfl, rfl⟩
  | holdHigh => exact ⟨_, delay_longEnough s.cfg .rstHigh _, initSend_trace 0 _⟩

/-- The delays of the block are those of a frame, of `HARD_RESET` and of a wait. -/
theorem BlockMove.appendsLongEnough {s t : State} (hm : BlockMove s t) : AppendsLongEnough s t := by
  cases hm with
  | rest => exact .inl rfl
  | frame c w ph => exact .inr (framePrimitive_longEnough w ph s)
  | hardReset p => exact .inr (hardResetStep_longEnough p s)
  | hold r => exact .inr ⟨_, delay_longEnough s.cfg .poll _, rfl⟩
  | close c => exact .inr ⟨_, rfl, afterFrame_trace c _⟩
  | display | validate => exact .inr ⟨.memRd _ _, rfl, validateNext_trace _⟩
  | notBusy r => exact .inr ⟨.poll s.env.nextBusy, rfl, by cases r <;> rfl⟩
  | exit r code => exact .inr ⟨.done code, rfl, by rw [exitStep_eq]; rfl⟩
  | illegal | forbidden | init | fill | fillColor | displayLength | displayEmpty | displayColor | sleep | timeout | busy
    | validateColor | first | second | changed => exact .inr ⟨_, rfl, rfl⟩

theorem HostMove.appendsLongEnough {s t : State} (hm : HostMove s t) : AppendsLongEnough s t := by
  obtain ⟨w, -, rfl⟩ | hf := hm.accepts_or_leaves
  · exact .inr ⟨.accept w, rfl, rfl⟩
  · exact .inl hf.trace

/-- Settles O44: no step changes the minima, and the one event it may append keeps to them. -/
theorem stepKeepsDelaysLongEnough : Obligations.StepKeepsDelaysLongEnough := by
  intro s t hs ht
  obtain ⟨hcfg, htrace⟩ : t.cfg = s.cfg ∧ AppendsLongEnough s t := by
    obtain ⟨-, hh⟩ | ⟨-, hb⟩ := step_agent ht
    · have hm := hostStep_move hh
      exact ⟨hm.hostFrame.cfg, hm.appendsLongEnough⟩
    · exact ⟨(blockStep_frame hb).cfg, (blockStep_move hb).appendsLongEnough⟩
  rw [hcfg]
  obtain htrace | ⟨e, he, htrace⟩ := htrace
  · rwa [htrace]
  · rw [htrace, List.all_append, hs]
    simpa using he

end Sys2Proof.Machine
end

section
/-! The frames sent since `Accept`: every step of either agent keeps them those of the position (41_initialization.md
R422, 43_pixel_transmission.md R467, 44_power_down.md R490). -/

namespace Sys2Proof.Machine

/-! ### What has been sent -/

/-- The reader of the trace has seen the level `DC` has now, and since `Accept` the frames `fs`. -/
def HasSent (fs : List FrameWord) (s : State) : Prop := s.trace.foldl framesNext (0, []) = (s.pins.dc, fs)

theorem SentInv.hasSent {s : State} (h : SentInv s) : HasSent (framesSent s.trace) s := Prod.ext h.dc rfl

/-- Only the trace and the level of `DC` matter. -/
theorem HasSent.congr {fs : List FrameWord} {s t : State} (h : HasSent fs s) (ht : t.trace = s.trace)
    (hp : t.pins.dc = s.pins.dc) : HasSent fs t := by
  rw [HasSent, ht, hp]
  exact h

/-- After one more event the reader is where `framesNext` takes it. -/
theorem HasSent.next {fs gs : List FrameWord} {s t : State} {e : Event} (h : HasSent fs s)
    (ht : t.trace = s.trace ++ [e]) (he : framesNext (s.pins.dc, fs) e = (t.pins.dc, gs)) : HasSent gs t := by
  rw [HasSent, ht, List.foldl_append, h]
  exact he

/-- What a position says of the frames sent reads the configuration, the latched operands and `K` only. -/
theorem sentAt_congr {s t : State} (hc : t.cfg = s.cfg) (hl : t.latched = s.latched) (hk : t.k = s.k)
    (fs : List FrameWord) (p : Point) : sentAt t fs p ↔ sentAt s fs p := by
  simp only [sentAt.eq_def, sentBefore.eq_def, hc, hl, hk]

/-- Where no request runs, the invariant is about the level of `DC` only. -/
theorem HasSent.ready {fs : List FrameWord} {s : State} (h : HasSent fs s) (hq : s.seq = .ready) : SentInv s where
  dc := by rw [h]
  sent p hp := by rw [hq] at hp; cases hp

/-- At a point of a request, the invariant is what that point says of the frames sent. -/
theorem HasSent.running {fs : List FrameWord} {s : State} {p : Point} (h : HasSent fs s) (hq : s.seq = .run p)
    (hp : sentAt s fs p) : SentInv s where
  dc := by rw [h]
  sent p' hp' := by
    rw [hq] at hp'
    cases hp'
    rw [framesSent, framesIn, h]
    exact hp

/-- Going on at a point keeps the invariant if the frames sent are that point's. -/
theorem HasSent.goto {fs : List FrameWord} {s : State} {p : Point} (h : HasSent fs s) (hp : sentAt s fs p) :
    SentInv (goto p s) :=
  HasSent.running (h.congr rfl rfl) rfl hp

theorem HasSent.raise {fs : List FrameWord} {s : State} (h : HasSent fs s) (code : Result) :
    SentInv (raise code s) :=
  HasSent.ready (h.next (e := .done code) rfl rfl) rfl

/-- The invariant at a point: the frames sent are the ones the point says. -/
theorem SentInv.at {s : State} {p : Point} (h : SentInv s) (hq : s.seq = .run p) :
    ∃ fs, HasSent fs s ∧ sentAt s fs p := ⟨_, h.hasSent, h.sent p hq⟩

/-! ### The primitives of a frame -/

/-- The exchange of a frame puts its word on the pins, and the primitives before it send nothing. -/
theorem framePrimitive_sentInv {s : State} {c : FrameCall} {w : FrameWord} {ph ph' : FramePhase} (hb : BusInv s)
    (h : SentInv s) (hq : s.seq = .run (.frame c w ph)) (hn : nextPhase ph = some ph') :
    SentInv (goto (.frame c w ph') (framePrimitive w ph s)) := by
  obtain ⟨fs, hs, hp⟩ := h.at hq
  cases ph with
  | select | setDc | setup =>
    cases hn
    exact HasSent.goto (hs.next rfl rfl) hp
  | exchange =>
    cases hn
    have hdc : s.pins.dc = w.extractLsb' 8 1 := by
      have hset := hb.dc
      rwa [dcSet, hq] at hset
    have hdc' : (framePrimitive w .exchange s).pins.dc = w.extractLsb' 8 1 := hdc
    have hsent : HasSent (fs ++ [w]) (framePrimitive w .exchange s) :=
      hs.next rfl (by rw [hdc', hdc, framesNext, frameWord_eta])
    exact hsent.goto ⟨fs, rfl, hp⟩
  | deselect => cases hn

/-! ### The lists of frames -/

/-- The frame of `FILL` after the first `K + 1` is its data frame `K`. -/
theorem fillFrames_take_succ {c : Cfg} {k : Nat} (n : Nibble) (h : k < c.nbytes) :
    (fillFrames c n).take (k + 1 + 1) = (fillFrames c n).take (k + 1) ++ [dataWord (fillByte n)] := by
  have hget : (fillFrames c n)[k + 1]? = some (dataWord (fillByte n)) := by
    simp [fillFrames, List.getElem?_append, h]
  rw [List.take_add_one, hget, Option.toList_some]

/-- The last frame of `FILL` is its refresh frame. -/
theorem fillFrames_eq_take_append (c : Cfg) (n : Nibble) :
    fillFrames c n = (fillFrames c n).take (c.nbytes + 1) ++ [cmdWord c.cmdRefresh] := by
  simp [fillFrames]

theorem displayPairs_zero (c : Cfg) : displayPairs c 0 [cmdWord c.cmdFrameWrite] := ⟨[], rfl, rfl, by simp⟩

/-- One more pair is one more data frame of recognised codes. -/
theorem displayPairs_succ {c : Cfg} {n : Nat} {fs : List FrameWord} {w : FrameWord} (h : displayPairs c n fs)
    (hw : pixelFrame c w) : displayPairs c (n + 1) (fs ++ [w]) := by
  obtain ⟨ws, rfl, rfl, hws⟩ := h
  refine ⟨ws ++ [w], rfl, by simp, fun v hv => ?_⟩
  obtain hv | hv := List.mem_append.1 hv
  · exact hws v hv
  · rwa [List.mem_singleton.1 hv]

/-! ### The operations that go on -/

/-- After `j` frames of `INIT` comes frame `j`, and the wait only after them all. -/
theorem initSend_sentInv {s : State} {j : Nat} (h : HasSent ((initFrames s.cfg).take j) s) :
    SentInv (initSend j s) := by
  obtain ⟨w, -, he⟩ | ⟨hnone, he⟩ := initSend_cases j s <;> rw [he]
  · exact h.goto rfl
  · have hall : (initFrames s.cfg).take j = initFrames s.cfg :=
      List.take_of_length_le (List.getElem?_eq_none_iff.1 hnone)
    rw [hall] at h
    exact HasSent.goto (h.congr rfl rfl) rfl

theorem fillSend_sentInv {s : State} (h : HasSent ((fillFrames s.cfg s.latched.color).take (s.k + 1)) s)
    (hk : s.k ≤ s.cfg.nbytes) : SentInv (fillSend s) := by
  obtain ⟨-, he⟩ | ⟨hge, he⟩ := fillSend_cases s <;> rw [he]
  · exact h.goto rfl
  · rw [le_antisymm hk hge] at h
    exact h.goto rfl

theorem displaySend_sentInv {s : State} {fs : List FrameWord} (h : HasSent fs s) (hp : displayPairs s.cfg s.k fs)
    (hk : s.k ≤ s.cfg.nbytes) : SentInv (displaySend s) := by
  obtain ⟨-, he⟩ | ⟨hge, he⟩ := displaySend_cases s <;> rw [he]
  · exact h.goto hp
  · rw [le_antisymm hk hge] at hp
    exact h.goto hp

theorem validateNext_sentInv {s : State} (h : HasSent [] s) : SentInv (validateNext s) := by
  obtain ⟨-, he⟩ | ⟨-, he⟩ := validateNext_cases s <;> rw [he] <;> exact h.goto rfl

/-- The frame that has just ended was the next one in order, so the request goes on with the one after it. -/
theorem afterFrame_sentInv {s : State} {c : FrameCall} {w : FrameWord} {before : List FrameWord}
    (hok : frameOk s c w) (hb : sentBefore s c before) (h : HasSent (before ++ [w]) s) : SentInv (afterFrame c s) := by
  cases c with
  | init j =>
    have hw : (initFrames s.cfg)[j]? = some w := hok
    obtain rfl : before = (initFrames s.cfg).take j := hb
    have htake : (initFrames s.cfg).take (j + 1) = (initFrames s.cfg).take j ++ [w] := by
      rw [List.take_add_one, hw, Option.toList_some]
    exact initSend_sentInv (htake ▸ h)
  | fill c =>
    cases c with
    | frameWrite =>
      obtain ⟨rfl, -⟩ := hok
      obtain rfl : before = [] := hb
      exact fillSend_sentInv (s := s.setK 0) (h.congr rfl rfl) (Nat.zero_le _)
    | pixel =>
      obtain ⟨rfl, hlt, -⟩ := hok
      obtain rfl : before = (fillFrames s.cfg s.latched.color).take (s.k + 1) := hb
      rw [← fillFrames_take_succ _ hlt] at h
      exact fillSend_sentInv (s := s.setK (s.k + 1)) (h.congr rfl rfl) hlt
    | refresh =>
      obtain ⟨rfl, -⟩ := hok
      obtain rfl : before = (fillFrames s.cfg s.latched.color).take (s.cfg.nbytes + 1) := hb
      rw [← fillFrames_eq_take_append] at h
      exact HasSent.goto (h.congr rfl rfl) rfl
  | display c =>
    cases c with
    | frameWrite =>
      obtain ⟨rfl, -⟩ := hok
      obtain rfl : before = [] := hb
      exact displaySend_sentInv (s := s.setK 0) (h.congr rfl rfl) (displayPairs_zero _) (Nat.zero_le _)
    | pixel =>
      obtain ⟨hlt, -, hpixel⟩ := hok
      exact displaySend_sentInv (s := s.setK (s.k + 1)) (h.congr rfl rfl) (displayPairs_succ hb hpixel) hlt
    | refresh =>
      obtain ⟨rfl, -⟩ := hok
      exact HasSent.goto (h.congr rfl rfl) ⟨before, hb, rfl⟩
  | sleep c =>
    cases c with
    | deepSleep | confirm | checkCode =>
      obtain rfl : w = _ := hok
      obtain rfl : before = _ := hb
      exact HasSent.goto (h.congr rfl rfl) rfl

/-- Nothing is sent in `HARD_RESET`. -/
theorem hardResetStep_sentInv {s : State} (p : ResetPoint) (h : HasSent [] s) : SentInv (hardResetStep p s) := by
  cases p with
  | holdLow | driveHigh => exact HasSent.goto (h.next rfl rfl) rfl
  | holdHigh => exact initSend_sentInv (j := 0) (h.next rfl rfl)

/-- A not-busy sample leads to a point that says the same of the frames sent. -/
theorem afterWait_sentInv {s : State} {fs : List FrameWord} {r : Request} {q : WaitPoint} (h : HasSent fs s)
    (hp : sentAt s fs (.wait r q)) : SentInv (afterWait r s) := by
  cases r <;> exact HasSent.goto (h.congr rfl rfl) hp

/-- A wait that times out has sent what its exit says. -/
theorem sentAt_errTimeout {s : State} {fs : List FrameWord} {r : Request} {q : WaitPoint}
    (h : sentAt s fs (.wait r q)) : sentAt s fs (.exit r .errTimeout) := by
  cases r <;> exact h

/-- Within a wait, the frames sent do not depend on which primitive comes next. -/
theorem sentAt_wait (s : State) (fs : List FrameWord) (r : Request) (q q' : WaitPoint) :
    sentAt s fs (.wait r q) ↔ sentAt s fs (.wait r q') := by
  cases r <;> exact Iff.rfl

/-! ### The moves -/

/-- Only the exchange of a frame sends anything; every other move goes on where the same frames are the ones the
position says. -/
theorem BlockMove.sentInv {s t : State} (hm : BlockMove s t) (hb : BusInv s) (hr : RequestInv s) (h : SentInv s) :
    SentInv t := by
  cases hm with
  | rest => exact h
  | illegal | forbidden | fillColor | displayLength => exact h.hasSent.raise _
  | init r hq | fill r n hq | displayEmpty r hq | sleep r hq =>
    obtain ⟨_, hs, rfl⟩ := h.at hq
    exact HasSent.goto (hs.next rfl rfl) rfl
  | displayColor r b hq | validateColor b hq =>
    obtain ⟨_, hs, rfl⟩ := h.at hq
    exact HasSent.goto (hs.next (e := .memRd _ b) rfl rfl) rfl
  | display r b n hq | validate b n hq =>
    obtain ⟨_, hs, rfl⟩ := h.at hq
    exact validateNext_sentInv (hs.next (e := .memRd _ b) rfl rfl)
  | frame c w ph ph' hq hn => exact framePrimitive_sentInv hb h hq hn
  | close c w hq =>
    obtain ⟨_, hs, before, rfl, hbefore⟩ := h.at hq
    have hok : frameOk s c w := hr.point _ hq
    exact afterFrame_sentInv (s := setLine .csN 1 s) hok hbefore (hs.next rfl rfl)
  | hardReset p hq =>
    obtain ⟨_, hs, rfl⟩ := h.at hq
    exact hardResetStep_sentInv p hs
  | notBusy r hq =>
    obtain ⟨fs, hs, hp⟩ := h.at hq
    exact afterWait_sentInv (hs.next (sampleBusy_trace s) rfl) hp
  | timeout r hq =>
    obtain ⟨fs, hs, hp⟩ := h.at hq
    exact HasSent.goto (hs.next (e := .poll s.env.nextBusy) rfl rfl) (sentAt_errTimeout hp)
  | busy r hq =>
    obtain ⟨fs, hs, hp⟩ := h.at hq
    exact HasSent.goto (hs.next (e := .poll s.env.nextBusy) rfl rfl) ((sentAt_wait s fs r _ _).1 hp)
  | hold r hq =>
    obtain ⟨fs, hs, hp⟩ := h.at hq
    exact HasSent.goto (hs.next (waitFor_trace .poll _ s) rfl) ((sentAt_wait s fs r _ _).1 hp)
  | first b hq | second b0 b hi lo hq =>
    obtain ⟨fs, hs, hp⟩ := h.at hq
    exact HasSent.goto (hs.next (e := .memRd _ b) rfl rfl) hp
  | changed b0 b hq =>
    obtain ⟨fs, hs, hp⟩ := h.at hq
    exact HasSent.running (hs.next (e := .memRd _ b) rfl rfl) hq hp
  | exit r code => rw [exitStep_eq]; exact h.hasSent.raise code

/-- Acceptance begins the list of frames anew, and no other move of the host touches what the position reads. -/
theorem HostMove.sentInv {s t : State} (hm : HostMove s t) (h : SentInv s) : SentInv t := by
  obtain ⟨w, -, rfl⟩ | hf := hm.accepts_or_leaves
  · exact HasSent.running (h.hasSent.next (e := .accept w) rfl rfl) rfl rfl
  · have hh := hm.hostFrame
    refine ⟨by rw [hf.trace, hh.pins]; exact h.dc, fun p hq => ?_⟩
    rw [hf.trace]
    exact (sentAt_congr hh.cfg hf.latched hh.k _ p).2 (h.sent p (hf.seq ▸ hq))

/-- Settles O39: the host leaves the list of frames or begins it anew, and every move of the block leads to a position
that says what has been sent by then. -/
theorem stepKeepsFramesSentInOrder : Obligations.StepKeepsFramesSentInOrder := by
  intro s t hb hr hs ht
  have hb' : BusInv s.takeTurn := ⟨hb.scan, hb.csN, hb.dc, hb.rstN⟩
  have hr' : RequestInv s.takeTurn := hr.congr rfl rfl rfl rfl rfl rfl
  have hs' : SentInv s.takeTurn := ⟨hs.dc, hs.sent⟩
  obtain ⟨-, hm⟩ | ⟨-, hm⟩ := step_move ht
  · exact hm.sentInv hs'
  · exact hm.sentInv hb' hr' hs'

end Sys2Proof.Machine
end

section
/-! The points of a request, one by one: dispatch of `INIT`, `HARD_RESET`, and the wait (41_initialization.md R420, R421,
R425, R426; 42_busy_wait.md R441). -/

namespace Sys2Proof.Machine

/-! ### What an instruction runs at a point of its own -/

theorem exec_init_dispatch {s : State} {r : Option Request} (hq : s.seq = .run (.dispatch r)) :
    exec .init s = checkState .init (fun t => .next (initFirst t)) s := by
  simp only [exec, execInit, hq]

theorem exec_init_hardReset {s : State} {p : ResetPoint} (hq : s.seq = .run (.hardReset p)) :
    exec .init s = .next (hardResetStep p s) := by
  simp only [exec, execInit, hq]

/-- In the wait of a request, its instruction runs the wait's next primitive. -/
theorem exec_wait {s : State} {i : Instr} {r : Request} {p : WaitPoint} (hi : requestOf i = some r)
    (hq : s.seq = .run (.wait r p)) : exec i s = .next (waitStep (afterWait r) r p s) := by
  cases i <;> cases hi <;> simp only [exec, execInit, execFill, execDisplay, execSleep, hq, afterWait]

/-- At the exit of a request, its instruction ends it. -/
theorem exec_exit {s : State} {i : Instr} {r : Request} {code : Result} (hi : requestOf i = some r)
    (hq : s.seq = .run (.exit r code)) : exec i s = .next (raise code s) := by
  rw [← exitStep_eq_raise]
  cases i <;> cases hi <;> simp only [exec, execInit, execFill, execDisplay, execSleep, hq]

/-- In a permitted state the state check is the request's first step. -/
theorem checkState_permitted {r : Request} {body : State → Host.Outcome State Fault Refusal} {s : State}
    (hp : permitted r s.pstate = true) : checkState r body s = body s := if_pos hp

/-- Only Refreshing forbids `INIT` (45_request_port.md R503, log 13). -/
theorem permitted_init {p : PanelState} (hp : p ≠ .refreshing) : permitted .init p = true := by
  cases p with
  | refreshing => exact absurd rfl hp
  | uninitialized | awake | idle | asleep => rfl

theorem initSend_of_getElem? {j : Nat} {s : State} {w : FrameWord} (h : (initFrames s.cfg)[j]? = some w) :
    initSend j s = startFrame (.init j) w s := by rw [initSend, h]

theorem initSend_of_length_le {j : Nat} {s : State} (h : (initFrames s.cfg).length ≤ j) :
    initSend j s = startWait .init s := by rw [initSend, List.getElem?_eq_none h]

theorem waitStep_notBusy {after : State → State} {r : Request} {s : State}
    (hb : s.env.nextBusy ≠ s.cfg.busyActiveLevel.get (siteOf r)) : waitStep after r .sample s = after (sampleBusy s) :=
  if_pos hb

/-- The state after a busy sample that is not the last one the bound allows. -/
def afterBusy (r : Request) (s : State) : State := goto (.wait r .hold) ((sampleBusy s).setPolls (s.polls + 1))

theorem waitStep_busy {after : State → State} {r : Request} {s : State}
    (hb : s.env.nextBusy = s.cfg.busyActiveLevel.get (siteOf r)) (ht : timedOut s.cfg (s.polls + 1) = false) :
    waitStep after r .sample s = afterBusy r s := by
  simp [waitStep, hb, ht, afterBusy]

/-- The state after the busy sample that times out. -/
def afterTimeout (r : Request) (s : State) : State :=
  goto (.exit r .errTimeout) (((sampleBusy s).setPolls (s.polls + 1)).setPState .uninitialized)

theorem waitStep_timeout {after : State → State} {r : Request} {s : State}
    (hb : s.env.nextBusy = s.cfg.busyActiveLevel.get (siteOf r)) (ht : timedOut s.cfg (s.polls + 1) = true) :
    waitStep after r .sample s = afterTimeout r s := by
  simp [waitStep, hb, ht, afterTimeout]

/-- What a sample does depends on the environment, the configuration and `POLLS` only: two states that agree there and
whose three next states correspond by `f` step alike. -/
theorem waitStep_sample_map {after f : State → State} {r : Request} {s s' : State} (henv : s'.env = s.env)
    (hcfg : s'.cfg = s.cfg) (hpolls : s'.polls = s.polls) (hafter : after (sampleBusy s') = f (after (sampleBusy s)))
    (hbusy : afterBusy r s' = f (afterBusy r s)) (htimeout : afterTimeout r s' = f (afterTimeout r s)) :
    waitStep after r .sample s' = f (waitStep after r .sample s) := by
  by_cases hb : s.env.nextBusy = s.cfg.busyActiveLevel.get (siteOf r)
  · have hb' : s'.env.nextBusy = s'.cfg.busyActiveLevel.get (siteOf r) := by rw [henv, hcfg, hb]
    cases ht : timedOut s.cfg (s.polls + 1) with
    | false => rw [waitStep_busy hb ht, waitStep_busy hb' (by rw [hcfg, hpolls, ht]), hbusy]
    | true => rw [waitStep_timeout hb ht, waitStep_timeout hb' (by rw [hcfg, hpolls, ht]), htimeout]
  · rw [waitStep_notBusy hb, waitStep_notBusy (by rwa [henv, hcfg]), hafter]

/-! ### The obligations on single steps -/

/-- Settles O10: in a permitted state dispatch is `INIT`'s first step, which runs the first primitive of
`HARD_RESET`. -/
theorem initDispatchDrivesResetLow : Obligations.InitDispatchDrivesResetLow := by
  intro s r hq hp
  rw [exec_init_dispatch hq, checkState_permitted hp]
  rfl

/-- Settles O11: each remaining point of `HARD_RESET` is its primitive, and after the last comes frame 0. -/
theorem hardResetHoldsThenRises : Obligations.HardResetHoldsThenRises := by
  intro s
  refine ⟨fun hq => exec_init_hardReset hq, fun hq => exec_init_hardReset hq, fun w hw hq => ?_⟩
  have hfirst : (initFrames (waitFor .rstHigh s.cfg.tRstHighMin s).cfg)[0]? = some w :=
    List.head?_eq_getElem? ▸ hw
  rw [exec_init_hardReset hq, hardResetStep, initSend_of_getElem? hfirst]
  rfl

/-- A not-busy sample in the wait of a request lets it go on. -/
theorem exec_notBusy {s : State} {i : Instr} {r : Request} (hi : requestOf i = some r)
    (hq : s.seq = .run (.wait r .sample)) (hb : s.env.nextBusy ≠ s.cfg.busyActiveLevel.get (siteOf r)) :
    exec i s = .next (afterWait r (sampleBusy s)) := by
  rw [exec_wait hi hq, waitStep_notBusy hb]

/-- Settles O23: after the sample each request goes on as its pseudocode says. -/
theorem notBusySampleEndsTheWait : Obligations.NotBusySampleEndsTheWait := fun _ =>
  ⟨fun hq hb => exec_notBusy rfl hq hb, fun _ hq hb => exec_notBusy rfl hq hb, fun hq hb => exec_notBusy rfl hq hb,
    fun hq hb => exec_notBusy rfl hq hb⟩

/-! ### `INIT` reads no operand of the host -/

/-- The state with other host registers, latched operands and host memory. -/
def withOperands (base len : Word) (l : Latched) (m : List Host.Cell) (s : State) : State :=
  (((s.setBufBase base).setBufLen len).setLatched l).setMem m

section
variable (base len : Word) (l : Latched) (m : List Host.Cell)

theorem withOperands_seq (s : State) : (withOperands base len l m s).seq = s.seq := rfl
theorem withOperands_pstate (s : State) : (withOperands base len l m s).pstate = s.pstate := rfl
theorem withOperands_cfg (s : State) : (withOperands base len l m s).cfg = s.cfg := rfl

theorem initSend_withOperands (j : Nat) (s : State) :
    initSend j (withOperands base len l m s) = withOperands base len l m (initSend j s) := by
  unfold initSend
  rw [withOperands_cfg]
  cases (initFrames s.cfg)[j]? <;> rfl

theorem hardResetStep_withOperands (p : ResetPoint) (s : State) :
    hardResetStep p (withOperands base len l m s) = withOperands base len l m (hardResetStep p s) := by
  cases p with
  | holdLow | driveHigh => rfl
  | holdHigh => exact initSend_withOperands base len l m 0 (waitFor .rstHigh s.cfg.tRstHighMin s)

/-- The wait of `INIT` reads no operand, nor does what follows it. -/
theorem waitStep_withOperands (p : WaitPoint) (s : State) :
    waitStep afterInitWait .init p (withOperands base len l m s) =
      withOperands base len l m (waitStep afterInitWait .init p s) := by
  cases p with
  | hold => rfl
  | sample => exact waitStep_sample_map rfl rfl rfl rfl rfl rfl

theorem exitStep_withOperands (code : Result) (s : State) :
    exitStep code (withOperands base len l m s) = withOperands base len l m (exitStep code s) := by
  simp only [exitStep_eq]
  rfl

/-- `INIT` always has a next state, and it goes with the operands put in before the step. -/
theorem execInit_withOperands (s : State) : ∃ t, execInit s = .next t ∧
    execInit (withOperands base len l m s) = .next (withOperands base len l m t) := by
  unfold execInit
  rw [withOperands_seq]
  split
  · exact ⟨_, rfl, by rw [hardResetStep_withOperands]⟩
  · exact ⟨_, rfl, by rw [waitStep_withOperands]⟩
  · exact ⟨_, rfl, by rw [exitStep_withOperands]⟩
  · unfold checkState
    rw [withOperands_pstate]
    split
    · exact ⟨initFirst s, rfl, rfl⟩
    · exact ⟨raise .errSequence s, rfl, rfl⟩

end

/-- Settles O60: no operation of `INIT` reads what the two states differ in. -/
theorem initReadsNoHostOperand : Obligations.InitReadsNoHostOperand := fun s base len l m =>
  execInit_withOperands base len l m s

end Sys2Proof.Machine
end

section
/-! Runs of whole requests: turns of the block with the events they append, put together; the wait, and `INIT` from
dispatch to its end (41_initialization.md R420 to R424, 42_busy_wait.md R441, R446). -/

namespace Sys2Proof.Machine

/-! ### Turns and the events they append -/

/-- `n` turns of the block lead from `s` to `t`: they append events of the shapes `es`, leave the host's side alone and
record no fault. -/
structure TurnsAppend (n : Nat) (es : List Event) (s t : State) : Prop where
  run : BlockRun n s t
  frame : BlockFrame s t
  fault : t.fault = s.fault
  trace : ∃ new, t.trace = s.trace ++ new ∧ new.map Event.shape = es

theorem TurnsAppend.zero (s : State) : TurnsAppend 0 [] s s :=
  ⟨.zero s, .refl s, rfl, [], (List.append_nil _).symm, rfl⟩

theorem TurnsAppend.trans {a b : Nat} {es fs : List Event} {s t u : State} (h : TurnsAppend a es s t)
    (g : TurnsAppend b fs t u) : TurnsAppend (a + b) (es ++ fs) s u := by
  obtain ⟨new, ht, rfl⟩ := h.trace
  obtain ⟨new', hu, rfl⟩ := g.trace
  exact ⟨h.run.trans g.run, h.frame.trans g.frame, g.fault.trans h.fault, new ++ new',
    by rw [hu, ht, List.append_assoc], List.map_append⟩

theorem TurnsAppend.cast {a b : Nat} {es fs : List Event} {s t : State} (h : TurnsAppend a es s t) (hn : a = b)
    (he : es = fs) : TurnsAppend b fs s t := hn ▸ he ▸ h

/-- Nothing is recorded on the way. -/
theorem TurnsAppend.unrecorded {n : Nat} {es : List Event} {s t : State} (h : TurnsAppend n es s t)
    (hu : s.unrecorded) : t.unrecorded := ⟨h.fault.trans hu.1, h.frame.refusal.trans hu.2⟩

/-- The instruction a turn runs does not depend on the schedule. -/
theorem fetch_setSched (s : State) (d : Sched) : fetch (s.setSched d) = fetch s := rfl

/-- A turn in which the block runs the instruction it fetches. -/
theorem BlockRun.fetched {s t : State} {i : Instr} (hu : s.unrecorded) (hf : fetch s = some i)
    (he : ∀ d, exec i (s.setSched d) = .next (t.setSched d)) : BlockRun 1 s t :=
  .one hu.2 fun d => by
    unfold blockStep
    rw [State.setSched_fault, hu.1, fetch_setSched, hf]
    exact he d

/-! ### The wait -/

theorem requestOf_runningInstr (r : Request) (s : State) : requestOf (runningInstr r s) = some r := by cases r <;> rfl

theorem afterWait_setSched (r : Request) (s : State) (d : Sched) :
    afterWait r (s.setSched d) = (afterWait r s).setSched d := by cases r <;> rfl

theorem waitStep_setSched (r : Request) (p : WaitPoint) (s : State) (d : Sched) :
    waitStep (afterWait r) r p (s.setSched d) = (waitStep (afterWait r) r p s).setSched d := by
  cases p with
  | hold => rfl
  | sample => exact waitStep_sample_map rfl rfl rfl (afterWait_setSched r (sampleBusy s) d) rfl rfl

theorem wait_turn {s : State} {r : Request} {p : WaitPoint} (hu : s.unrecorded) (hq : s.seq = .run (.wait r p)) :
    BlockRun 1 s (waitStep (afterWait r) r p s) := by
  have hf : fetch s = some (runningInstr r s) := by rw [fetch, hq]
  refine .fetched hu hf fun d => ?_
  rw [exec_wait (requestOf_runningInstr r s) (s := s.setSched d) hq, waitStep_setSched]

/-- The exit's turn ends the request. -/
theorem exit_turn {s : State} {r : Request} {code : Result} (hu : s.unrecorded) (hq : s.seq = .run (.exit r code)) :
    TurnsAppend 1 [.done code] s (raise code s) where
  run := by
    have hf : fetch s = some (runningInstr r s) := by rw [fetch, hq]
    refine .fetched hu hf fun d => ?_
    rw [exec_exit (requestOf_runningInstr r s) (s := s.setSched d) hq]
    rfl
  frame := raise_frame code s
  fault := rfl
  trace := ⟨[.done code], rfl, rfl⟩

/-- A busy sample and the delay after it. -/
def busyRound (r : Request) (s : State) : State := goto (.wait r .sample) (waitFor .poll s.cfg.tPollMin (afterBusy r s))

theorem busyRound_turns {s : State} {r : Request} {a : Level} (hu : s.unrecorded)
    (hq : s.seq = .run (.wait r .sample)) (ha : s.cfg.busyActiveLevel.get (siteOf r) = a)
    (hnext : s.env.nextBusy = a) (ht : timedOut s.cfg (s.polls + 1) = false) :
    TurnsAppend 2 [.poll a, .delay .poll 0] s (busyRound r s) where
  run := by
    have hsample := wait_turn hu hq
    rw [waitStep_busy (hnext.trans ha.symm) ht] at hsample
    exact hsample.trans (wait_turn (s := afterBusy r s) hu rfl)
  frame := by constructor <;> rfl
  fault := rfl
  trace := ⟨[.poll s.env.nextBusy, .delay .poll (s.cfg.tPollMin + s.env.takeBusy.nextSlack)],
    by simp [busyRound, afterBusy, waitFor, sampleBusy], by simp [Event.shape, hnext]⟩

/-- After `n` busy samples and their delays the wait stands at the next sample, has counted them, and has written
nothing else of the block. -/
structure WaitedBusy (r : Request) (n : Nat) (s t : State) : Prop where
  seq : t.seq = .run (.wait r .sample)
  polls : t.polls = s.polls + n
  busy : t.env.busy = s.env.busy.drop n
  pins : t.pins = s.pins
  pstate : t.pstate = s.pstate
  result : t.result = s.result
  k : t.k = s.k

theorem busyRound_waitedBusy (r : Request) (s : State) : WaitedBusy r 1 s (busyRound r s) := by
  constructor <;> simp [busyRound, afterBusy, goto, waitFor, sampleBusy, Env.takeBusy, Env.takeSlack]

theorem WaitedBusy.zero {r : Request} {s : State} (hq : s.seq = .run (.wait r .sample)) : WaitedBusy r 0 s s :=
  ⟨hq, rfl, rfl, rfl, rfl, rfl, rfl⟩

theorem WaitedBusy.trans {r : Request} {a b : Nat} {s t u : State} (h : WaitedBusy r a s t) (g : WaitedBusy r b t u) :
    WaitedBusy r (a + b) s u :=
  ⟨g.seq, by rw [g.polls, h.polls, Nat.add_assoc], by rw [g.busy, h.busy, List.drop_drop], g.pins.trans h.pins,
    g.pstate.trans h.pstate, g.result.trans h.result, g.k.trans h.k⟩

/-- A bound not reached by a number of samples is reached by no smaller one. -/
theorem timedOut_mono {c : Cfg} {m n : Nat} (hmn : m ≤ n) (hn : timedOut c n = false) : timedOut c m = false := by
  unfold timedOut at hn ⊢
  cases hb : c.busyTimeout with
  | none => rfl
  | some b =>
    rw [hb] at hn
    have hlt : ¬ b ≤ n := of_decide_eq_false hn
    exact decide_eq_false fun hle => hlt (hle.trans hmn)

/-- `n` busy samples below the bound; `a` is the level at which the panel is busy. -/
theorem busy_run {s : State} {r : Request} {n : Nat} {a : Level} {rest : List Level} (hu : s.unrecorded)
    (hq : s.seq = .run (.wait r .sample)) (ha : s.cfg.busyActiveLevel.get (siteOf r) = a)
    (hb : s.env.busy = List.replicate n a ++ rest) (ht : timedOut s.cfg (s.polls + n) = false) :
    ∃ t, TurnsAppend (2 * n) (busyEvents a n) s t ∧ WaitedBusy r n s t := by
  induction n generalizing s with
  | zero => exact ⟨s, .zero s, .zero hq⟩
  | succ n ih =>
    rw [List.replicate_succ, List.cons_append] at hb
    have hnext : s.env.nextBusy = a := by rw [Env.nextBusy, hb, List.headD_cons]
    have hround := busyRound_turns hu hq ha hnext (timedOut_mono (by omega) ht)
    have hstep := busyRound_waitedBusy r s
    have ha' : (busyRound r s).cfg.busyActiveLevel.get (siteOf r) = a := by rw [hround.frame.cfg, ha]
    have hb' : (busyRound r s).env.busy = List.replicate n a ++ rest := by
      rw [hstep.busy, hb, List.drop_one, List.tail_cons]
    have ht' : timedOut (busyRound r s).cfg ((busyRound r s).polls + n) = false := by
      rw [hround.frame.cfg, hstep.polls, Nat.add_assoc, Nat.add_comm 1 n, ht]
    obtain ⟨t, hturns, hwaited⟩ := ih (hround.unrecorded hu) hstep.seq ha' hb' ht'
    exact ⟨t, (hround.trans hturns).cast (by omega) rfl, Nat.add_comm 1 n ▸ hstep.trans hwaited⟩

/-- The not-busy sample that ends the wait. -/
theorem notBusy_turn {s : State} {r : Request} {v : Level} (hu : s.unrecorded) (hq : s.seq = .run (.wait r .sample))
    (hnext : s.env.nextBusy = v) (hv : v ≠ s.cfg.busyActiveLevel.get (siteOf r)) :
    TurnsAppend 1 [.poll v] s (afterWait r (sampleBusy s)) where
  run := by
    have hturn := wait_turn hu hq
    rwa [waitStep_notBusy (hnext.trans_ne hv)] at hturn
  frame := by cases r <;> constructor <;> rfl
  fault := by cases r <;> rfl
  trace := ⟨[.poll v], by rw [← hnext]; cases r <;> rfl, rfl⟩

/-- A whole wait: `n` busy samples below the bound, then a not-busy one, after which the request goes on from a state
`t` that has counted the busy ones. -/
theorem wait_run {s : State} {r : Request} {n : Nat} {a v : Level} {rest : List Level} (hu : s.unrecorded)
    (hq : s.seq = .run (.wait r .sample)) (ha : s.cfg.busyActiveLevel.get (siteOf r) = a)
    (hb : s.env.busy = List.replicate n a ++ v :: rest) (hv : v ≠ a) (ht : timedOut s.cfg (s.polls + n) = false) :
    ∃ t, TurnsAppend (2 * n + 1) (busyEvents a n ++ [.poll v]) s (afterWait r (sampleBusy t)) ∧
      WaitedBusy r n s t := by
  obtain ⟨t, hturns, hwaited⟩ := busy_run hu hq ha hb ht
  have hnext : t.env.nextBusy = v := by
    rw [Env.nextBusy, hwaited.busy, hb, List.drop_left' List.length_replicate, List.headD_cons]
  have hv' : v ≠ t.cfg.busyActiveLevel.get (siteOf r) := by rwa [hturns.frame.cfg, ha]
  exact ⟨t, hturns.trans (notBusy_turn (hturns.unrecorded hu) hwaited.seq hnext hv'), hwaited⟩

/-! ### The frames of `INIT` -/

/-- The state in which the frames `ws` have been sent, in order. -/
def framesDone (ws : List FrameWord) (s : State) : State := ws.foldl (fun u w => frameSent w u) s

theorem framesDone_cons (w : FrameWord) (ws : List FrameWord) (s : State) :
    framesDone (w :: ws) s = framesDone ws (frameSent w s) := List.foldl_cons ..

theorem framesDone_concat (ws : List FrameWord) (w : FrameWord) (s : State) :
    framesDone (ws ++ [w]) s = frameSent w (framesDone ws s) := List.foldl_concat ..

theorem frameSent_unrecorded {s : State} (w : FrameWord) (hu : s.unrecorded) : (frameSent w s).unrecorded :=
  ⟨(frameSent_fault w s).trans hu.1, (frameSent_frame w s).refusal.trans hu.2⟩

theorem frameSent_rstN (w : FrameWord) (s : State) : (frameSent w s).pins.rstN = s.pins.rstN := by
  rw [frameSent_pins]

theorem framesDone_busy (ws : List FrameWord) (s : State) : (framesDone ws s).env.busy = s.env.busy := by
  induction ws generalizing s with
  | nil => rfl
  | cons w ws ih => rw [framesDone_cons, ih, frameSent_busy]

theorem framesDone_rstN (ws : List FrameWord) (s : State) : (framesDone ws s).pins.rstN = s.pins.rstN := by
  induction ws generalizing s with
  | nil => rfl
  | cons w ws ih => rw [framesDone_cons, ih, frameSent_rstN]

/-- After the frames of `INIT`, of which the last is a command, `CS_N` is high and `DC` low. -/
theorem framesDone_initFrames_pins (c : Cfg) (s : State) :
    (framesDone (initFrames c) s).pins = ⟨1, 0, s.pins.rstN⟩ := by
  rw [initFrames, framesDone_concat, frameSent_pins, framesDone_rstN, cmdWord, frameWord_dc]

/-- Five turns from the start of a frame, with the frame's five events. -/
theorem frame_turns {s : State} {c : FrameCall} {w : FrameWord} (hu : s.unrecorded)
    (hq : s.seq = .run (.frame c w .select)) :
    TurnsAppend 5 (frameEvents w) s (afterFrame c (frameSent w s)) where
  run := frame_run hu hq
  frame := (frameSent_frame w s).trans (afterFrame_frame c _)
  fault := (afterFrame_fault c _).trans (frameSent_fault w s)
  trace := ⟨_, (afterFrame_trace c _).trans (frameSent_trace w s), rfl⟩

/-- The frames of `INIT` from frame `j` on, in order and with nothing between, and then the wait. -/
theorem initFrames_run {s : State} {j : Nat} {ws : List FrameWord} (hu : s.unrecorded)
    (hws : (initFrames s.cfg).drop j = ws) :
    TurnsAppend (5 * ws.length) (ws.flatMap frameEvents) (initSend j s) (startWait .init (framesDone ws s)) := by
  induction ws generalizing s j with
  | nil =>
    rw [initSend_of_length_le (List.drop_eq_nil_iff.1 hws)]
    exact .zero _
  | cons w ws ih =>
    have hw : (initFrames s.cfg)[j]? = some w := by rw [← List.head?_drop, hws, List.head?_cons]
    have hrest : (initFrames (frameSent w s).cfg).drop (j + 1) = ws := by
      rw [(frameSent_frame w s).cfg, ← List.tail_drop, hws, List.tail_cons]
    have hframe := frame_turns (s := startFrame (.init j) w s) hu rfl
    have hgo : afterFrame (.init j) (frameSent w (startFrame (.init j) w s)) = initSend (j + 1) (frameSent w s) :=
      initSend_setSeq (j + 1) (frameSent w s) _
    rw [hgo] at hframe
    rw [initSend_of_getElem? hw, framesDone_cons]
    exact (hframe.trans (ih (frameSent_unrecorded w hu) hrest)).cast (by rw [List.length_cons]; omega) rfl

/-! ### `INIT` -/

theorem hardResetStep_setSched (p : ResetPoint) (s : State) (d : Sched) :
    hardResetStep p (s.setSched d) = (hardResetStep p s).setSched d := by
  cases p with
  | holdLow | driveHigh => rfl
  | holdHigh => exact initSend_setSched 0 (waitFor .rstHigh s.cfg.tRstHighMin s) d

theorem hardReset_turn {s : State} {p : ResetPoint} (hu : s.unrecorded) (hq : s.seq = .run (.hardReset p)) :
    BlockRun 1 s (hardResetStep p s) := by
  have hf : fetch s = some .init := by rw [fetch, hq]
  refine .fetched hu hf fun d => ?_
  rw [exec_init_hardReset (s := s.setSched d) hq, hardResetStep_setSched]

/-- Dispatch of `INIT` while the panel is not Refreshing. -/
theorem init_dispatch_turn {s : State} {r : Option Request} (hu : s.unrecorded) (hq : s.seq = .run (.dispatch r))
    (hi : decodeReq s.reqShadow = .init) (hp : s.pstate ≠ .refreshing) : BlockRun 1 s (initFirst s) := by
  refine .dispatch hu hq fun d => ?_
  rw [hi, exec_init_dispatch (s := s.setSched d) hq, checkState_permitted (s := s.setSched d) (permitted_init hp)]
  rfl

/-- The state at the end of `HARD_RESET`, before what comes next is chosen. -/
def resetPulsed (s : State) : State :=
  waitFor .rstHigh s.cfg.tRstHighMin (hardResetStep .driveHigh (hardResetStep .holdLow (initFirst s)))

theorem resetPulsed_trace (s : State) : ∃ low high, (resetPulsed s).trace =
    s.trace ++ [.line .rstN 0, .delay .rstLow low, .line .rstN 1, .delay .rstHigh high] :=
  ⟨s.cfg.tRstLowMin + s.env.nextSlack, s.cfg.tRstHighMin + s.env.takeSlack.nextSlack, by
    simp [resetPulsed, hardResetStep, initFirst, setLine, waitFor, goto]⟩

/-- The reset pulse, from dispatch to the first frame. -/
theorem reset_run {s : State} {r : Option Request} (hu : s.unrecorded) (hq : s.seq = .run (.dispatch r))
    (hi : decodeReq s.reqShadow = .init) (hp : s.pstate ≠ .refreshing) :
    TurnsAppend 4 resetEvents s (initSend 0 (resetPulsed s)) where
  run := (((init_dispatch_turn hu hq hi hp).trans (hardReset_turn (s := initFirst s) hu rfl)).trans
    (hardReset_turn (s := hardResetStep .holdLow (initFirst s)) hu rfl)).trans
    (hardReset_turn (s := hardResetStep .driveHigh (hardResetStep .holdLow (initFirst s))) hu rfl)
  frame := .trans (by constructor <;> rfl) (initSend_frame 0 _)
  fault := initSend_fault 0 _
  trace := by
    obtain ⟨low, high, htrace⟩ := resetPulsed_trace s
    exact ⟨_, (initSend_trace 0 _).trans htrace, rfl⟩

/-- `INIT` from dispatch to its first sample: the reset pulse, then every frame. -/
theorem init_run_to_wait {s : State} {r : Option Request} (hu : s.unrecorded) (hq : s.seq = .run (.dispatch r))
    (hi : decodeReq s.reqShadow = .init) (hp : s.pstate ≠ .refreshing) :
    ∃ t, TurnsAppend (4 + 5 * (initFrames s.cfg).length) (resetEvents ++ (initFrames s.cfg).flatMap frameEvents) s t ∧
      t.seq = .run (.wait .init .sample) ∧ t.polls = 0 ∧ t.pins = ⟨1, 0, 1⟩ ∧ t.env.busy = s.env.busy :=
  ⟨startWait .init (framesDone (initFrames s.cfg) (resetPulsed s)),
    (reset_run hu hq hi hp).trans (initFrames_run (s := resetPulsed s) hu rfl), rfl, rfl,
    framesDone_initFrames_pins s.cfg (resetPulsed s), framesDone_busy _ (resetPulsed s)⟩

/-- Settles O52: the reset pulse and the frames, the wait, and the exit, one after the other. -/
theorem initSendsTheTableAndEndsAwake : Obligations.InitSendsTheTableAndEndsAwake := by
  intro s n v rest hq hi hp hu hbusy hv htime hturns
  obtain ⟨u, hsend, huseq, hupolls, hupins, hubusy⟩ := init_run_to_wait hu hq hi hp
  have ha : u.cfg.busyActiveLevel.get (siteOf .init) = s.cfg.busyActiveLevel.powerOn := by rw [hsend.frame.cfg]; rfl
  have hbound : timedOut u.cfg (u.polls + n) = false := by rw [hsend.frame.cfg, hupolls, Nat.zero_add, htime]
  obtain ⟨w, hwait, hwaited⟩ := wait_run (hsend.unrecorded hu) huseq ha (hubusy.trans hbusy) hv hbound
  have hall := (hsend.trans hwait).trans (exit_turn (hwait.unrecorded (hsend.unrecorded hu)) rfl)
  have hrun : BlockRun (5 * (initFrames s.cfg).length + 2 * n + 6) s
      (raise .ok (afterWait .init (sampleBusy w))) := hall.run.cast (by omega)
  obtain ⟨d, hd⟩ := hrun.run hturns
  obtain ⟨new, htrace, hshape⟩ := hall.trace
  have hpolls : w.polls = n := by rw [hwaited.polls, hupolls, Nat.zero_add]
  refine ⟨_, new, hd, htrace, ?_, rfl, rfl, rfl, hpolls, hwaited.pins.trans hupins, hall.frame.bufBase,
    hall.frame.bufLen, hall.frame.overrun, hall.frame.mem, hall.unrecorded hu⟩
  rw [hshape]
  simp only [List.append_assoc, List.cons_append, List.nil_append]

end Sys2Proof.Machine
end

section
/-! The busy samples of a wait, with a bound and without one (42_busy_wait.md R441 to R443, R446, R447; 60_exceptions.md
R604). -/

namespace Sys2Proof.Machine

/-! ### The bound -/

/-- A number of samples is below the bound, if there is one. -/
theorem timedOut_eq_false_iff {c : Cfg} {n : Nat} :
    timedOut c n = false ↔ ∀ b, c.busyTimeout = some b → n < b := by
  unfold timedOut
  cases c.busyTimeout <;> simp

theorem timedOut_of_le {c : Cfg} {b n : Nat} (hb : c.busyTimeout = some b) (hle : b ≤ n) : timedOut c n = true := by
  rw [timedOut, hb]
  exact decide_eq_true hle

/-! ### A busy sample and the delay after it -/

/-- Settles O22: the bound, reached or not, decides what follows a busy sample; after the delay comes the next one. -/
theorem busySampleCountsOrTimesOut : Obligations.BusySampleCountsOrTimesOut := by
  intro s i r hi
  refine ⟨fun hq hb => ⟨fun n hn hle => ?_, fun hlt => ?_⟩, fun hq => exec_wait hi hq⟩
  · rw [exec_wait hi hq, waitStep_timeout hb (timedOut_of_le hn hle)]
    rfl
  · rw [exec_wait hi hq, waitStep_busy hb (timedOut_eq_false_iff.2 hlt)]
    rfl

/-! ### The two forms below the bound -/

/-- The state under another `BUSY_TIMEOUT`. -/
def withTimeout (b : Option Nat) (s : State) : State := { s with cfg := { s.cfg with busyTimeout := b } }

theorem afterWait_withTimeout (b : Option Nat) (r : Request) (s : State) :
    afterWait r (withTimeout b s) = withTimeout b (afterWait r s) := by cases r <;> rfl

theorem afterWait_frame (r : Request) (s : State) : BlockFrame s (afterWait r s) := by
  cases r <;> constructor <;> rfl

/-- Under the bound `b`, if it is one, the step at `p` is not the busy sample that reaches it. -/
def BelowBound (b : Option Nat) (r : Request) (p : WaitPoint) (s : State) : Prop :=
  p = .sample → s.env.nextBusy = s.cfg.busyActiveLevel.get (siteOf r) →
    timedOut (withTimeout b s).cfg (s.polls + 1) = false

/-- Below the bound a step of a wait is the one it makes under `None`. -/
theorem waitStep_withTimeout {b : Option Nat} {r : Request} {p : WaitPoint} {s : State} (hbelow : BelowBound b r p s) :
    waitStep (afterWait r) r p (withTimeout b s) =
      withTimeout b (waitStep (afterWait r) r p (withTimeout none s)) := by
  cases p with
  | hold => rfl
  | sample =>
    by_cases hb : s.env.nextBusy = s.cfg.busyActiveLevel.get (siteOf r)
    · rw [waitStep_busy (s := withTimeout b s) hb (hbelow rfl hb), waitStep_busy (s := withTimeout none s) hb rfl]
      rfl
    · rw [waitStep_notBusy (s := withTimeout b s) hb, waitStep_notBusy (s := withTimeout none s) hb]
      exact afterWait_withTimeout b r (sampleBusy (withTimeout none s))

theorem exec_withTimeout {i : Instr} {b : Option Nat} {r : Request} {p : WaitPoint} {s : State}
    (hi : requestOf i = some r) (hq : s.seq = .run (.wait r p)) (hbelow : BelowBound b r p s) :
    exec i (withTimeout b s) = .next { waitStep (afterWait r) r p (withTimeout none s) with
      cfg := { s.cfg with busyTimeout := b } } := by
  have hcfg : (waitStep (afterWait r) r p (withTimeout none s)).cfg = (withTimeout none s).cfg :=
    (waitStep_frame (afterWait_frame r) r p _).cfg
  rw [exec_wait (s := withTimeout b s) hi hq, waitStep_withTimeout hbelow, withTimeout, hcfg]
  rfl

/-- Settles O59: below the bound both forms make the step that `None` makes. -/
theorem timeoutFormsAgreeBelowTheBound : Obligations.TimeoutFormsAgreeBelowTheBound := by
  intro s i r p m hi hq _ hbelow
  have hsome : BelowBound (some m) r p s := fun hp hb => decide_eq_false (Nat.not_le.2 (hbelow hp hb))
  have hnone : BelowBound none r p s := fun _ _ => rfl
  exact ⟨_, exec_withTimeout hi hq hsome, exec_withTimeout hi hq hnone⟩

/-! ### Whole waits on a busy panel -/

/-- The busy sample that reaches the bound. -/
theorem timeout_turn {s : State} {r : Request} {a : Level} (hu : s.unrecorded) (hq : s.seq = .run (.wait r .sample))
    (ha : s.cfg.busyActiveLevel.get (siteOf r) = a) (hnext : s.env.nextBusy = a)
    (ht : timedOut s.cfg (s.polls + 1) = true) : TurnsAppend 1 [.poll a] s (afterTimeout r s) where
  run := by
    have hturn := wait_turn hu hq
    rwa [waitStep_timeout (hnext.trans ha.symm) ht] at hturn
  frame := by constructor <;> rfl
  fault := rfl
  trace := ⟨[.poll s.env.nextBusy], rfl, by rw [hnext]; rfl⟩

/-- Settles O56: `m` busy samples below the bound, the one that reaches it, and the exit. -/
theorem boundedWaitEndsWithErrTimeout : Obligations.BoundedWaitEndsWithErrTimeout := by
  intro s r m rest hq hp hu hbound hbusy hturns
  rw [List.replicate_succ', List.append_assoc] at hbusy
  have hbelow : timedOut s.cfg (s.polls + m) = false := timedOut_eq_false_iff.2 fun b hb => by
    cases hbound.symm.trans hb
    omega
  obtain ⟨t, hwait, hwaited⟩ := busy_run hu hq rfl hbusy hbelow
  have hpolls : t.polls + 1 = m + 1 := by rw [hwaited.polls, hp, Nat.zero_add]
  have hnext : t.env.nextBusy = s.cfg.busyActiveLevel.get (siteOf r) := by
    rw [Env.nextBusy, hwaited.busy, hbusy, List.drop_left' List.length_replicate]
    rfl
  have hlast := timeout_turn (hwait.unrecorded hu) hwaited.seq (by rw [hwait.frame.cfg]) hnext
    (timedOut_of_le (hwait.frame.cfg ▸ hbound) hpolls.ge)
  have hall := (hwait.trans hlast).trans (exit_turn (hlast.unrecorded (hwait.unrecorded hu)) rfl)
  obtain ⟨d, hd⟩ := hall.run.run hturns
  obtain ⟨new, htrace, hshape⟩ := hall.trace
  refine ⟨_, new, hd, htrace, ?_, rfl, rfl, rfl, hpolls, hwaited.pins, hall.unrecorded hu⟩
  rw [hshape, List.append_assoc]
  rfl

/-- Settles O57: without a bound any number of busy samples is below it. -/
theorem unboundedWaitGoesOnForever : Obligations.UnboundedWaitGoesOnForever := by
  intro s r n rest hq hu hbound hbusy hturns
  have hbelow : timedOut s.cfg (s.polls + n) = false := timedOut_eq_false_iff.2 fun b hb => by
    cases hbound.symm.trans hb
  obtain ⟨t, hwait, hwaited⟩ := busy_run hu hq rfl hbusy hbelow
  obtain ⟨d, hd⟩ := hwait.run.run hturns
  obtain ⟨new, htrace, hshape⟩ := hwait.trace
  have hready : t.ready = false := by rw [State.ready, hwaited.seq]; rfl
  exact ⟨_, new, hd, htrace, hshape, hwaited.seq, hready, hwaited.polls, hwaited.pstate, hwaited.result,
    hwait.unrecorded hu⟩

end Sys2Proof.Machine
end

section
/-! The pixel encoder: `ENCODE8`, `PACK` and `FILLBYTE` (43_pixel_transmission.md R460 to R463). -/

namespace Sys2Proof.Machine

/-! ### The colour tables -/

theorem Color.mem_all (x : Color) : x ∈ Color.all := by
  cases x <;> decide

/-- A table without a repeated entry tells the colours apart (00_scope.md R10(b), R10(c)). -/
theorem ColorMap.get_injective {α : Type} {m : ColorMap α} (h : m.toList.Nodup) : Function.Injective m.get := by
  have hmap : (Color.all.map m.get).Nodup := h
  exact fun x y hxy => List.inj_on_of_nodup_map hmap (Color.mem_all x) (Color.mem_all y) hxy

/-! ### `ENCODE8` -/

/-- A nibble the encoder gives is that of a colour whose 8-bit code is the byte. -/
theorem encode8_eq_some {c : Cfg} {b : Byte} {n : Nibble} (h : encode8 c b = some n) :
    ∃ x, c.code8.get x = b ∧ c.nibble.get x = n := by
  obtain ⟨x, hx, hn⟩ := Option.map_eq_some_iff.1 h
  have hcode : (c.code8.get x == b) = true := List.find?_some (p := fun x => c.code8.get x == b) hx
  exact ⟨x, beq_iff_eq.1 hcode, hn⟩

/-- The encoder gives nothing exactly where no colour has the byte as its code. -/
theorem encode8_eq_none_iff {c : Cfg} {b : Byte} : encode8 c b = none ↔ ∀ x, c.code8.get x ≠ b := by
  simp [encode8, Color.mem_all]

/-- With no code repeated, the encoder gives each colour's code that colour's nibble. -/
theorem encode8_code8 {c : Cfg} (hv : c.Valid) (x : Color) : encode8 c (c.code8.get x) = some (c.nibble.get x) := by
  cases h : encode8 c (c.code8.get x) with
  | none => exact absurd rfl (encode8_eq_none_iff.1 h x)
  | some n =>
    obtain ⟨y, hcode, hnibble⟩ := encode8_eq_some h
    rw [← hnibble, ColorMap.get_injective hv.code8_injective hcode]

/-- Settles O5: a colour's code is encoded as its nibble, and a byte that is no code finds no colour. -/
theorem encodeEightMapsCodesToNibbles : Obligations.EncodeEightMapsCodesToNibbles := by
  intro c b hv
  refine ⟨fun x hx => ?_, encode8_eq_none_iff.2⟩
  rw [← hx, encode8_code8 hv]

/-- Settles O6: two bytes with one nibble are codes of colours with that nibble, which are one colour. -/
theorem encodeEightIsTotalAndInjective : Obligations.EncodeEightIsTotalAndInjective := by
  intro c hv
  refine ⟨fun x => ⟨_, encode8_code8 hv x⟩, fun b b' n hb hb' => ?_⟩
  obtain ⟨x, rfl, hx⟩ := encode8_eq_some hb
  obtain ⟨y, rfl, hy⟩ := encode8_eq_some hb'
  rw [ColorMap.get_injective hv.nibble_injective (hx.trans hy.symm)]

/-- A recognised nibble is that of some colour (30_encoding.md R303). -/
theorem recognisedNibble_iff {c : Cfg} {n : Nibble} : recognisedNibble c n = true ↔ ∃ x, c.nibble.get x = n := by
  simp [recognisedNibble, Color.mem_all]

/-! ### `PACK` -/

theorem pack_high (hi lo : Nibble) : (pack hi lo).extractLsb' 4 4 = hi := by
  apply BitVec.eq_of_getLsbD_eq
  intro i hlt
  interval_cases i <;> simp [pack]

theorem pack_low (hi lo : Nibble) : (pack hi lo).extractLsb' 0 4 = lo := by
  apply BitVec.eq_of_getLsbD_eq
  intro i hlt
  interval_cases i <;> simp [pack]

/-- The two lanes as a number: no bit crosses, so their disjunction is their sum. -/
theorem pack_toNat (hi lo : Nibble) : (pack hi lo).toNat = 16 * hi.toNat + lo.toNat := by
  have hor : hi.toNat <<< 4 ||| lo.toNat = hi.toNat <<< 4 + lo.toNat := (Nat.shiftLeft_add_eq_or_of_lt lo.isLt _).symm
  have hlo : lo.toNat < 16 := lo.isLt
  have hhi : hi.toNat < 16 := hi.isLt
  simp only [pack, BitVec.toNat_or, BitVec.toNat_shiftLeft, BitVec.toNat_setWidth]
  rw [Nat.mod_eq_of_lt (by omega : hi.toNat < 2 ^ 8), Nat.mod_eq_of_lt (by omega : lo.toNat < 2 ^ 8),
    Nat.mod_eq_of_lt (by rw [Nat.shiftLeft_eq]; omega), hor, Nat.shiftLeft_eq]
  omega

/-- Settles O7: the lanes read back, and twice the same nibble is 17 times its number. -/
theorem packPutsTheFirstPixelHigh : Obligations.PackPutsTheFirstPixelHigh := by
  intro hi lo
  refine ⟨rfl, pack_high hi lo, pack_low hi lo, rfl, rfl, ?_⟩
  rw [fillByte, pack_toNat]
  omega

end Sys2Proof.Machine
end

section
/-! `FILL` and `DISPLAY` one step at a time: dispatch, the reads of `VALIDATE` and of transmission, and the recorded
fault (43_pixel_transmission.md R464 to R466, R470; 60_exceptions.md R607). -/

namespace Sys2Proof.Machine

/-! ### Dispatch of `FILL` -/

theorem exec_fill_dispatch {s : State} {r : Option Request} (n : Nibble) (hq : s.seq = .run (.dispatch r))
    (hp : permitted .fill s.pstate = true) : exec (.fill n) s = .next (fillFirst s) := by
  simp only [exec, execFill, hq, checkState_permitted hp]

theorem fillFirst_recognised {s : State} (h : recognisedNibble s.cfg s.latched.color = true) :
    fillFirst s = openFrame (.fill .frameWrite) (cmdWord s.cfg.cmdFrameWrite) s := if_pos h

theorem fillFirst_unrecognised {s : State} (h : recognisedNibble s.cfg s.latched.color ≠ true) :
    fillFirst s = raise .errColor s := if_neg h

/-- Settles O12: the colour check decides between the frame-write frame and the raise. -/
theorem fillDispatchChecksTheColour : Obligations.FillDispatchChecksTheColour := by
  rintro s r n hq hp rfl
  refine ⟨fun hx => ?_, fun hx => ?_⟩
  · rw [exec_fill_dispatch _ hq hp, fillFirst_recognised (recognisedNibble_iff.2 hx)]
    rfl
  · have hno : recognisedNibble s.cfg s.latched.color ≠ true := fun h => by
      obtain ⟨x, hx'⟩ := recognisedNibble_iff.1 h
      exact hx x hx'
    rw [exec_fill_dispatch _ hq hp, fillFirst_unrecognised hno]
    rfl

/-! ### What a read goes on to -/

/-- A read that is answered gives the byte and appends its event. -/
theorem memRead_eq_some {a : Word} {s : State} {b : Byte} (h : Memory.read s.mem a.toNat = some b) :
    memRead a s = some (b, s.emit (.memRd a b)) := by
  rw [memRead, h, Option.map_some]

section
variable {s : State} {b : Byte}

theorem validate_recognised {n : Nibble} (hm : Memory.read s.mem (bufferAddr s.latched.base s.k).toNat = some b)
    (he : encode8 s.cfg b = some n) : readStep .validate s =
      .next (validateNext ((s.emit (.memRd (bufferAddr s.latched.base s.k) b)).setK (s.k + 1))) := by
  simp only [readStep, validateRead, memRead_eq_some hm, he]

theorem validate_unrecognised (hm : Memory.read s.mem (bufferAddr s.latched.base s.k).toNat = some b)
    (he : encode8 s.cfg b = none) : readStep .validate s =
      .next (goto (.exit .display .errColor) (s.emit (.memRd (bufferAddr s.latched.base s.k) b))) := by
  simp only [readStep, validateRead, memRead_eq_some hm, he]

theorem readStep_first (hm : Memory.read s.mem (bufferAddr s.latched.base (2 * s.k)).toNat = some b) :
    readStep .first s =
      .next (goto (.read (.second b)) (s.emit (.memRd (bufferAddr s.latched.base (2 * s.k)) b))) := by
  simp only [readStep, firstRead, memRead_eq_some hm]

theorem readStep_second {b0 : Byte} {hi lo : Nibble}
    (hm : Memory.read s.mem (bufferAddr s.latched.base (2 * s.k + 1)).toNat = some b)
    (hhi : encode8 s.cfg b0 = some hi) (hlo : encode8 s.cfg b = some lo) : readStep (.second b0) s =
      .next (startFrame (.display .pixel) (dataWord (pack hi lo))
        (s.emit (.memRd (bufferAddr s.latched.base (2 * s.k + 1)) b))) := by
  simp only [readStep, secondRead, memRead_eq_some hm, hhi, hlo]

/-- Either byte of the pair unrecognised: the fault is recorded (R470). -/
theorem readStep_changed {b0 : Byte}
    (hm : Memory.read s.mem (bufferAddr s.latched.base (2 * s.k + 1)).toNat = some b)
    (he : encode8 s.cfg b0 = none ∨ encode8 s.cfg b = none) : readStep (.second b0) s =
      .next ((s.emit (.memRd (bufferAddr s.latched.base (2 * s.k + 1)) b)).setFault (some .hostBufferChanged)) := by
  simp only [readStep, secondRead, memRead_eq_some hm]
  split
  next hhi hlo => simp [hhi, hlo] at he
  next => rfl

end

theorem validateNext_of_lt {s : State} (h : s.k < s.cfg.npix) : validateNext s = goto (.read .validate) s := if_pos h

theorem validateNext_of_le {s : State} (h : s.cfg.npix ≤ s.k) :
    validateNext s = startFrame (.display .frameWrite) (cmdWord s.cfg.cmdFrameWrite) s := if_neg (Nat.not_lt.2 h)

/-! ### The obligations on single reads -/

theorem bufferAddr_zero (base : Word) : bufferAddr base 0 = base := by
  simp [bufferAddr]

/-- Settles O13: dispatch is the read of byte 0, which is recognised and not the last. -/
theorem displayDispatchReadsByteZero : Obligations.DisplayDispatchReadsByteZero := by
  intro s r b n hq hp hl hn hm he
  have hm0 : Memory.read (s.setK 0).mem (bufferAddr (s.setK 0).latched.base (s.setK 0).k).toNat = some b := by
    rwa [State.setK_k, bufferAddr_zero]
  rw [exec_display_dispatch hq hp hl (by omega), validate_recognised hm0 he, State.setK_k, bufferAddr_zero,
    validateNext_of_lt]
  · rfl
  · exact hn

/-- Settles O18: the read goes on as the byte and its index say. -/
theorem validateReadsInAscendingOrder : Obligations.ValidateReadsInAscendingOrder := by
  intro s b hq hm
  rw [← bufferAddr_toNat] at hm
  rw [exec_display_read hq]
  refine ⟨fun n he hlt => ?_, fun n he heq => ?_, fun he => validate_unrecognised hm he⟩
  · rw [validate_recognised hm he, validateNext_of_lt hlt, goto, ← hq]
    rfl
  · rw [validate_recognised hm he, validateNext_of_le heq.ge]
    rfl

/-- Settles O19: the first read keeps its byte for the second, which packs the two codes. -/
theorem transmissionPacksTwoBytes : Obligations.TransmissionPacksTwoBytes := by
  intro s b
  refine ⟨fun hq hm => ?_, fun b0 hi lo hq hm hhi hlo => ?_⟩ <;> rw [← bufferAddr_toNat] at hm <;>
    rw [exec_display_read hq]
  · exact readStep_first hm
  · exact readStep_second hm hhi hlo

/-! ### The recorded fault -/

theorem blockStep_faulted {u : State} {f : Fault} (h : u.fault = some f) : blockStep u = .fault f := by
  simp only [blockStep, h]

/-- A recorded fault stays recorded: the block has no step, and the host's steps leave it. -/
theorem step_keeps_fault {u v : State} {f : Fault} (h : u.fault = some f) (hv : step u = .next v) :
    v.fault = some f := by
  obtain ⟨-, hh⟩ | ⟨-, hb⟩ := step_agent hv
  · exact (hostStep_move hh).hostFrame.fault.trans h
  · rw [blockStep_faulted (u := u.takeTurn) h] at hb
    cases hb

theorem run_keeps_fault {n : Nat} {u v : State} {f : Fault} (h : u.fault = some f)
    (hv : Host.Core.run Sys2Proof.core n u = .next v) : v.fault = some f := by
  induction n generalizing u with
  | zero => cases hv; exact h
  | succ n ih =>
    obtain ⟨w, hw, hrun⟩ := run_succ_inv n hv
    exact ih (step_keeps_fault h hw) hrun

theorem not_safeRun_of_faulted {u : State} {f : Fault} (h : u.fault = some f) (n : Nat) : ¬ SafeRun n u := by
  rintro ⟨t, hrun, hnone, -⟩
  have hsome := run_keeps_fault h hrun
  rw [hnone] at hsome
  cases hsome

/-- Settles O20: the second read records the fault, which both agents keep and after which the block has no step. -/
theorem changedBufferIsRecordedAndStops : Obligations.ChangedBufferIsRecordedAndStops := by
  intro s b0 b1 hq hm he
  rw [← bufferAddr_toNat] at hm
  refine ⟨_, (exec_display_read hq).trans (readStep_changed hm he), rfl, rfl, rfl, rfl, rfl, fun u hu => ?_⟩
  exact ⟨blockStep_faulted hu, fun v hv => step_keeps_fault hu hv, not_safeRun_of_faulted hu⟩

end Sys2Proof.Machine
end

section
/-! What the runs of `FILL` and `DISPLAY` share: their frames, the loop over the data frames, and the refresh to the end
(43_pixel_transmission.md R465 to R467). -/

namespace Sys2Proof.Machine

/-! ### What pixel transmission leaves alone -/

/-- What the frames and the reads of a request leave for what comes after them: the host's side, the records, `RST_N`
and the samples of BUSY to come. -/
structure PixelKeeps (s t : State) : Prop where
  frame : BlockFrame s t
  fault : t.fault = s.fault
  rstN : t.pins.rstN = s.pins.rstN
  busy : t.env.busy = s.env.busy

theorem PixelKeeps.refl (s : State) : PixelKeeps s s := ⟨.refl s, rfl, rfl, rfl⟩

theorem PixelKeeps.trans {s t u : State} (h : PixelKeeps s t) (g : PixelKeeps t u) : PixelKeeps s u :=
  ⟨h.frame.trans g.frame, g.fault.trans h.fault, g.rstN.trans h.rstN, g.busy.trans h.busy⟩

theorem PixelKeeps.unrecorded {s t : State} (h : PixelKeeps s t) (hu : s.unrecorded) : t.unrecorded :=
  ⟨h.fault.trans hu.1, h.frame.refusal.trans hu.2⟩

theorem PixelKeeps.setK {s t : State} (h : PixelKeeps s t) (k : Nat) : PixelKeeps s (t.setK k) :=
  h.trans ⟨setK_frame k t, rfl, rfl, rfl⟩

theorem PixelKeeps.emit {s t : State} (h : PixelKeeps s t) (e : Event) : PixelKeeps s (t.emit e) :=
  h.trans ⟨emit_frame e t, rfl, rfl, rfl⟩

theorem PixelKeeps.frameSent {s t : State} (h : PixelKeeps s t) (w : FrameWord) : PixelKeeps s (frameSent w t) :=
  h.trans ⟨frameSent_frame w t, frameSent_fault w t, frameSent_rstN w t, frameSent_busy w t⟩

/-! ### The frames of a request -/

/-- A frame that comes next, with its five events; what the request does then does not read `SEQ`. -/
theorem startFrame_turns {s : State} (c : FrameCall) (w : FrameWord) (hu : s.unrecorded) :
    TurnsAppend 5 (frameEvents w) (startFrame c w s) (afterFrame c (frameSent w s)) := by
  have hframe := frame_turns (s := startFrame c w s) hu rfl
  have hgo : afterFrame c (frameSent w (startFrame c w s)) = afterFrame c (frameSent w s) :=
    afterFrame_setSeq c (frameSent w s) _
  rwa [hgo] at hframe

/-- The four turns of a frame after its first. -/
theorem openFrame_run {s : State} (c : FrameCall) (w : FrameWord) (hu : s.unrecorded) :
    BlockRun 4 (openFrame c w s) (afterFrame c (frameSent w s)) := by
  have hselect := framePrimitive_unrecorded w .select hu
  have hsetDc := framePrimitive_unrecorded w .setDc hselect
  have hsetup := framePrimitive_unrecorded w .setup hsetDc
  exact (((framePrimitive_turn c w hselect rfl).trans (framePrimitive_turn c w hsetDc rfl)).trans
    (framePrimitive_turn c w hsetup rfl)).trans (deselect_turn c w (framePrimitive_unrecorded w .exchange hsetup))

/-- A frame whose first primitive runs at dispatch. -/
theorem dispatch_frame_turns {s : State} {c : FrameCall} {w : FrameWord} {k : Nat} (hu : s.unrecorded)
    (hopen : BlockRun 1 s (openFrame c w (s.setK k))) :
    TurnsAppend 5 (frameEvents w) s (afterFrame c (frameSent w (s.setK k))) where
  run := hopen.trans (openFrame_run c w hu)
  frame := ((setK_frame k s).trans (frameSent_frame w _)).trans (afterFrame_frame c _)
  fault := (afterFrame_fault c _).trans (frameSent_fault w _)
  trace := ⟨_, (afterFrame_trace c _).trans (frameSent_trace w _), rfl⟩

/-- Awake and Idle permit every request (45_request_port.md R503). -/
theorem permitted_awake_or_idle {r : Request} {p : PanelState} (h : p = .awake ∨ p = .idle) : permitted r p = true := by
  obtain rfl | rfl := h <;> cases r <;> rfl

/-! ### The loop over the `NBYTES` data frames -/

/-- A round of the loop is `len` turns that append the events `body K` and count in `K`; `m` rounds before the end the
loop has `m` times as many turns. -/
theorem pixel_loop {s : State} {send : State → State} {len : Nat} {body : Nat → List Event}
    (hround : ∀ u, PixelKeeps s u → u.k < s.cfg.nbytes →
      ∃ u', TurnsAppend len (body u.k) (send u) (send u') ∧ PixelKeeps s u' ∧ u'.k = u.k + 1)
    {m : Nat} {u : State} (hkeep : PixelKeeps s u) (hm : u.k + m = s.cfg.nbytes) :
    ∃ t, TurnsAppend (len * m) ((List.range' u.k m).flatMap body) (send u) (send t) ∧ PixelKeeps s t ∧
      t.k = s.cfg.nbytes := by
  induction m generalizing u with
  | zero => exact ⟨u, .zero _, hkeep, hm⟩
  | succ m ih =>
    obtain ⟨u', hturns, hkeep', hk'⟩ := hround u hkeep (by omega)
    obtain ⟨t, hrest, hkept, hk⟩ := ih hkeep' (by omega)
    refine ⟨t, (hturns.trans hrest).cast (by rw [Nat.mul_succ, Nat.add_comm]) ?_, hkept, hk⟩
    rw [hk', List.range'_succ, List.flatMap_cons]

/-! ### The refresh and the end -/

/-- `FILL` and `DISPLAY` are the requests that wait for the refresh. -/
theorem afterWait_refresh {r : Request} (hr : siteOf r = .refresh) : afterWait r = afterRefreshWait r := by
  cases r with
  | fill | display => rfl
  | init | sleep => cases hr

/-- After the refresh frame come the wait and the exit, and the panel is Idle. -/
theorem refresh_ends_idle {s u : State} {r : Request} {m n : Nat} {es : List Event} {v : Level} {rest : List Level}
    (hr : siteOf r = .refresh) (hu : s.unrecorded) (hkeep : PixelKeeps s u)
    (hsend : TurnsAppend m es s (afterRefreshFrame r (frameSent (cmdWord s.cfg.cmdRefresh) u)))
    (hbusy : s.env.busy = List.replicate n s.cfg.busyActiveLevel.refresh ++ v :: rest)
    (hv : v ≠ s.cfg.busyActiveLevel.refresh) (htime : timedOut s.cfg n = false)
    (hturns : s.blockTurns (m + 2 * n + 2)) :
    ∃ t new, Host.Core.run Sys2Proof.core (m + 2 * n + 2) s = .next t ∧ t.trace = s.trace ++ new ∧
      new.map Event.shape = es ++ busyEvents s.cfg.busyActiveLevel.refresh n ++ [.poll v, .done .ok] ∧
      t.seq = .ready ∧ t.result = .ok ∧ t.pstate = .idle ∧ t.polls = n ∧ t.pins = ⟨1, 0, s.pins.rstN⟩ ∧
      t.bufBase = s.bufBase ∧ t.bufLen = s.bufLen ∧ t.overrun = s.overrun ∧ t.mem = s.mem ∧ t.unrecorded := by
  have hsent := hkeep.frameSent (cmdWord s.cfg.cmdRefresh)
  have ha : (afterRefreshFrame r (frameSent (cmdWord s.cfg.cmdRefresh) u)).cfg.busyActiveLevel.get (siteOf r) =
      s.cfg.busyActiveLevel.refresh := by rw [hsend.frame.cfg, hr]; rfl
  obtain ⟨w, hwait, hwaited⟩ := wait_run (hsend.unrecorded hu) rfl ha (hsent.busy.trans hbusy) hv
    (by rw [hsend.frame.cfg]; exact (Nat.zero_add n).symm ▸ htime)
  rw [afterWait_refresh hr] at hwait
  have hall := (hsend.trans hwait).trans (exit_turn (hwait.unrecorded (hsend.unrecorded hu)) rfl)
  obtain ⟨d, hd⟩ := (hall.run.cast (by omega)).run hturns
  obtain ⟨new, htrace, hshape⟩ := hall.trace
  have hpins : w.pins = ⟨1, 0, s.pins.rstN⟩ := by
    rw [hwaited.pins, ← hkeep.rstN]
    exact (frameSent_pins _ u).trans (by rw [cmdWord, frameWord_dc])
  refine ⟨_, new, hd, htrace, ?_, rfl, rfl, rfl, hwaited.polls.trans (Nat.zero_add n), hpins, hall.frame.bufBase,
    hall.frame.bufLen, hall.frame.overrun, hall.frame.mem, hall.unrecorded hu⟩
  rw [hshape]
  simp only [List.append_assoc, List.cons_append, List.nil_append]

end Sys2Proof.Machine
end

section
/-! `FILL` as a whole request (43_pixel_transmission.md R465, R467). -/

namespace Sys2Proof.Machine

theorem fillSend_of_lt {s : State} (h : s.k < s.cfg.nbytes) :
    fillSend s = startFrame (.fill .pixel) (dataWord (fillByte s.latched.color)) s := if_pos h

theorem fillSend_of_le {s : State} (h : s.cfg.nbytes ≤ s.k) :
    fillSend s = startFrame (.fill .refresh) (cmdWord s.cfg.cmdRefresh) s := if_neg (Nat.not_lt.2 h)

/-- A data frame of `FILL` counts in `K`. -/
theorem afterFrame_fill_pixel (w : FrameWord) (s : State) :
    afterFrame (.fill .pixel) (frameSent w s) = fillSend ((frameSent w s).setK (s.k + 1)) := by
  rw [← frameSent_k w s]
  rfl

/-- One data frame of `FILL`. -/
theorem fill_round {u : State} (hu : u.unrecorded) (hk : u.k < u.cfg.nbytes) :
    TurnsAppend 5 (frameEvents (dataWord (fillByte u.latched.color))) (fillSend u)
      (fillSend ((frameSent (dataWord (fillByte u.latched.color)) u).setK (u.k + 1))) := by
  rw [fillSend_of_lt hk, ← afterFrame_fill_pixel]
  exact startFrame_turns (.fill .pixel) _ hu

/-- The data frames and the refresh frame of `FILL`. -/
theorem fill_loop_turns {s u : State} (hu : s.unrecorded) (hkeep : PixelKeeps s u) (hk : u.k = 0) :
    ∃ t, TurnsAppend (5 * s.cfg.nbytes + 5)
      ((List.replicate s.cfg.nbytes (dataWord (fillByte s.latched.color))).flatMap frameEvents ++
        frameEvents (cmdWord s.cfg.cmdRefresh)) (fillSend u)
      (afterRefreshFrame .fill (frameSent (cmdWord s.cfg.cmdRefresh) t)) ∧ PixelKeeps s t := by
  obtain ⟨t, hturns, hkept, hkt⟩ := pixel_loop (send := fillSend) (len := 5)
    (body := fun _ => frameEvents (dataWord (fillByte s.latched.color)))
    (fun v hv hlt => by
      have hround := fill_round (hv.unrecorded hu) (hv.frame.cfg ▸ hlt)
      rw [hv.frame.latched] at hround
      exact ⟨_, hround, (hv.frameSent _).setK _, rfl⟩)
    hkeep (by rw [hk, Nat.zero_add])
  have hrefresh := startFrame_turns (.fill .refresh) (cmdWord t.cfg.cmdRefresh) (hkept.unrecorded hu)
  rw [← fillSend_of_le (by rw [hkt, hkept.frame.cfg]), hkept.frame.cfg] at hrefresh
  have hdata : List.replicate s.cfg.nbytes (dataWord (fillByte s.latched.color)) =
      (List.range' u.k s.cfg.nbytes).map fun _ => dataWord (fillByte s.latched.color) := by
    rw [List.map_const', List.length_range']
  exact ⟨t, (hturns.trans hrefresh).cast rfl (by rw [hdata, List.flatMap_map]), hkept⟩

theorem fill_dispatch_turn {s : State} {r : Option Request} {c : Nibble} (hu : s.unrecorded)
    (hq : s.seq = .run (.dispatch r)) (hi : decodeReq s.reqShadow = .fill c) (hp : permitted .fill s.pstate = true)
    (hc : recognisedNibble s.cfg s.latched.color = true) :
    BlockRun 1 s (openFrame (.fill .frameWrite) (cmdWord s.cfg.cmdFrameWrite) s) := by
  refine .dispatch hu hq fun d => ?_
  rw [hi, exec_fill_dispatch (s := s.setSched d) c hq hp, fillFirst_recognised (s := s.setSched d) hc]
  rfl

/-- Settles O53: the frame-write frame, the loop, and the refresh to the end, one after the other. -/
theorem fillSendsTheColourAndEndsIdle : Obligations.FillSendsTheColourAndEndsIdle := by
  rintro s c n v rest hq hi rfl hp hx hu hbusy hv htime hturns
  have hopen := fill_dispatch_turn hu hq hi (permitted_awake_or_idle hp) (recognisedNibble_iff.2 hx)
  have hfirst := dispatch_frame_turns (k := s.k) hu hopen
  obtain ⟨u, hloop, hkeep⟩ := fill_loop_turns hu
    (((PixelKeeps.refl s).frameSent (cmdWord s.cfg.cmdFrameWrite)).setK 0) rfl
  have hcount : 5 * s.cfg.nbytes + 2 * n + 12 = 5 + (5 * s.cfg.nbytes + 5) + 2 * n + 2 := by omega
  rw [hcount] at hturns ⊢
  exact refresh_ends_idle rfl hu hkeep ((hfirst.trans hloop).cast rfl (List.append_assoc ..).symm) hbusy hv htime
    hturns

end Sys2Proof.Machine
end

section
/-! `DISPLAY` as a whole request: the two passes over the buffer, and the end at a byte that is not recognised
(43_pixel_transmission.md R464, R466 to R468; 60_exceptions.md R603). -/

namespace Sys2Proof.Machine

/-! ### `VALIDATE` -/

/-- `DISPLAY` is about to be dispatched in a permitted state, with the right length and nothing recorded. -/
structure DisplayDue (s : State) : Prop where
  seq : s.seq = .run (.dispatch (some .display))
  instr : decodeReq s.reqShadow = .display
  permitted : permitted .display s.pstate = true
  len : s.latched.len.toNat = s.cfg.npix
  unrecorded : s.unrecorded

/-- Byte `i` of the frame buffer is `b`, which has the code `n`. -/
def BufferByte (s : State) (i : Nat) (b : Byte) (n : Nibble) : Prop :=
  Memory.read s.mem (bufferAddr s.latched.base i).toNat = some b ∧ encode8 s.cfg b = some n

/-- The host's side decides what the buffer holds. -/
theorem BufferByte.frame {s t : State} {i : Nat} {b : Byte} {n : Nibble} (h : BufferByte s i b n)
    (hf : BlockFrame s t) : BufferByte t i b n := by
  rwa [BufferByte, hf.mem, hf.latched, hf.cfg]

/-- The read of byte `i` of the buffer `px`. -/
def bufferRead (base : Word) (px : Nat → Byte) (i : Nat) : Event := .memRd (bufferAddr base i) (px i)

/-- The state in which the first `n` bytes of the buffer `px` have been read in order, and counted. -/
def validated (px : Nat → Byte) (n : Nat) (s : State) : State :=
  { s with k := n, trace := s.trace ++ (List.range n).map (bufferRead s.latched.base px) }

theorem validated_zero (px : Nat → Byte) (s : State) : validated px 0 s = s.setK 0 := by
  simp [validated, State.setK]

theorem validated_succ (px : Nat → Byte) (n : Nat) (s : State) :
    ((validated px n s).emit (bufferRead s.latched.base px n)).setK (n + 1) = validated px (n + 1) s := by
  simp [validated, State.emit, State.setK, List.range_succ]

theorem validated_pixelKeeps (px : Nat → Byte) (n : Nat) (s : State) : PixelKeeps s (validated px n s) :=
  ⟨by constructor <;> rfl, rfl, rfl, rfl⟩

theorem validateNext_setSeq (s : State) (q : Seq) : validateNext (s.setSeq q) = validateNext s := by
  unfold validateNext
  rw [State.setSeq_cfg, State.setSeq_k]
  split <;> rfl

/-- A recognised byte in turn, wherever `SEQ` stands. -/
theorem validated_read {s : State} {px : Nat → Byte} {i : Nat} {n : Nibble} (h : BufferByte s i (px i) n) (q : Seq)
    (d : Sched) : readStep .validate (((validated px i s).setSeq q).setSched d) =
      .next ((validateNext (validated px (i + 1) s)).setSched d) := by
  rw [validate_recognised (s := ((validated px i s).setSeq q).setSched d) h.1 h.2, ← validateNext_setSched,
    ← validateNext_setSeq _ q, ← validated_succ]
  rfl

theorem read_turn {s t : State} {p : ReadPoint} (hu : s.unrecorded) (hq : s.seq = .run (.read p))
    (hread : ∀ d, readStep p (s.setSched d) = .next (t.setSched d)) : BlockRun 1 s t := by
  have hf : fetch s = some .display := by rw [fetch, hq]
  refine .fetched hu hf fun d => ?_
  rw [exec_display_read (s := s.setSched d) hq, hread]

/-- The reads of bytes 0 to `i`, of which the last leads to `t`. That of byte 0 is the dispatch step's; the bytes before
the last are recognised. -/
theorem validate_run {s t : State} {px : Nat → Byte} {i : Nat} (hdue : DisplayDue s) (hi : i < s.cfg.npix)
    (hbytes : ∀ j, j < i → ∃ n, BufferByte s j (px j) n)
    (hlast : ∀ q d, readStep .validate (((validated px i s).setSeq q).setSched d) = .next (t.setSched d)) :
    BlockRun (i + 1) s t := by
  induction i generalizing t with
  | zero =>
    refine .dispatch hdue.unrecorded hdue.seq fun d => ?_
    rw [hdue.instr, exec_display_dispatch (s := s.setSched d) hdue.seq hdue.permitted hdue.len hi, ← hlast s.seq d,
      validated_zero]
    rfl
  | succ i ih =>
    obtain ⟨n, hn⟩ := hbytes i (Nat.lt_succ_self i)
    have hprev : BlockRun (i + 1) s (goto (.read .validate) (validated px (i + 1) s)) :=
      ih (by omega) (fun j hj => hbytes j (by omega)) fun q d => by rw [validated_read hn, validateNext_of_lt hi]
    exact hprev.trans (read_turn hdue.unrecorded rfl (hlast (.run (.read .validate))))

/-- With no pixel to read, dispatch opens the frame-write frame (R464). -/
theorem exec_display_dispatch_empty {s : State} {r : Option Request} (hq : s.seq = .run (.dispatch r))
    (hp : permitted .display s.pstate = true) (hl : s.latched.len.toNat = s.cfg.npix) (h0 : s.cfg.npix = 0) :
    exec .display s =
      .next (openFrame (.display .frameWrite) (cmdWord s.cfg.cmdFrameWrite) (s.setK 0)) := by
  simp [exec, execDisplay, hq, checkState_permitted hp, displayFirst, hl, h0]

/-- `VALIDATE` over a recognised buffer and the frame-write frame. With no pixel to read, the frame opens at
dispatch. -/
theorem validate_turns {s : State} {px : Nat → Byte} (hdue : DisplayDue s)
    (hbytes : ∀ i, i < s.cfg.npix → ∃ n, BufferByte s i (px i) n) :
    TurnsAppend (s.cfg.npix + 5) ((List.range s.cfg.npix).map (bufferRead s.latched.base px) ++
      frameEvents (cmdWord s.cfg.cmdFrameWrite)) s
      (displaySend ((frameSent (cmdWord s.cfg.cmdFrameWrite) (validated px s.cfg.npix s)).setK 0)) := by
  rcases hnpix : s.cfg.npix with - | m
  · have hopen : BlockRun 1 s (openFrame (.display .frameWrite) (cmdWord s.cfg.cmdFrameWrite) (s.setK 0)) :=
      .dispatch hdue.unrecorded hdue.seq fun d => by
        rw [hdue.instr, exec_display_dispatch_empty (s := s.setSched d) hdue.seq hdue.permitted hdue.len hnpix]
        rfl
    rw [validated_zero]
    exact (dispatch_frame_turns hdue.unrecorded hopen).cast (Nat.zero_add 5).symm rfl
  · obtain ⟨n, hn⟩ := hbytes m (by omega)
    have hreads : BlockRun (m + 1) s (startFrame (.display .frameWrite) (cmdWord s.cfg.cmdFrameWrite)
        (validated px (m + 1) s)) :=
      validate_run hdue (by omega) (fun j hj => hbytes j (by omega)) fun q d => by
        rw [validated_read hn, validateNext_of_le hnpix.le]
        rfl
    have hpass : TurnsAppend (m + 1) ((List.range (m + 1)).map (bufferRead s.latched.base px)) s _ :=
      ⟨hreads, by constructor <;> rfl, rfl, _, rfl, by rw [List.map_map]; rfl⟩
    exact hpass.trans (startFrame_turns (.display .frameWrite) _ hdue.unrecorded)

/-! ### Transmission -/

theorem displaySend_of_lt {s : State} (h : s.k < s.cfg.nbytes) : displaySend s = goto (.read .first) s := if_pos h

theorem displaySend_of_le {s : State} (h : s.cfg.nbytes ≤ s.k) :
    displaySend s = startFrame (.display .refresh) (cmdWord s.cfg.cmdRefresh) s := if_neg (Nat.not_lt.2 h)

/-- The state in which both bytes of pair `k` have been read. -/
def pairRead (px : Nat → Byte) (k : Nat) (s : State) : State :=
  (s.emit (bufferRead s.latched.base px (2 * k))).emit (bufferRead s.latched.base px (2 * k + 1))

/-- The data frame of pair `k`. -/
def pairWord (nib : Nat → Nibble) (k : Nat) : FrameWord := dataWord (pack (nib (2 * k)) (nib (2 * k + 1)))

/-- The events of pair `k`: its two reads and its data frame (R466). -/
def pairEvents (base : Word) (px : Nat → Byte) (nib : Nat → Nibble) (k : Nat) : List Event :=
  [bufferRead base px (2 * k), bufferRead base px (2 * k + 1)] ++ frameEvents (pairWord nib k)

/-- The two reads of a pair. -/
theorem pair_read_turns {u : State} {px : Nat → Byte} {nib : Nat → Nibble} (hu : u.unrecorded)
    (hhi : BufferByte u (2 * u.k) (px (2 * u.k)) (nib (2 * u.k)))
    (hlo : BufferByte u (2 * u.k + 1) (px (2 * u.k + 1)) (nib (2 * u.k + 1))) :
    TurnsAppend 2 [bufferRead u.latched.base px (2 * u.k), bufferRead u.latched.base px (2 * u.k + 1)]
      (goto (.read .first) u) (startFrame (.display .pixel) (pairWord nib u.k) (pairRead px u.k u)) where
  run := by
    have hfirst : BlockRun 1 (goto (.read .first) u)
        (goto (.read (.second (px (2 * u.k)))) (u.emit (bufferRead u.latched.base px (2 * u.k)))) :=
      read_turn hu rfl fun d => readStep_first (s := (goto (.read .first) u).setSched d) hhi.1
    have hsecond : BlockRun 1 (goto (.read (.second (px (2 * u.k)))) (u.emit (bufferRead u.latched.base px (2 * u.k))))
        (startFrame (.display .pixel) (pairWord nib u.k) (pairRead px u.k u)) :=
      read_turn hu rfl fun d => readStep_second (s := (goto _ (u.emit _)).setSched d) hlo.1 hhi.2 hlo.2
    exact hfirst.trans hsecond
  frame := by constructor <;> rfl
  fault := rfl
  trace := ⟨[bufferRead u.latched.base px (2 * u.k), bufferRead u.latched.base px (2 * u.k + 1)],
    List.append_assoc .., rfl⟩

/-- A data frame of `DISPLAY` counts in `K`. -/
theorem afterFrame_display_pixel (w : FrameWord) (s : State) :
    afterFrame (.display .pixel) (frameSent w s) = displaySend ((frameSent w s).setK (s.k + 1)) := by
  rw [← frameSent_k w s]
  rfl

/-- One pair of `DISPLAY`: two reads and a data frame. -/
theorem display_round {u : State} {px : Nat → Byte} {nib : Nat → Nibble} (hu : u.unrecorded)
    (hk : u.k < u.cfg.nbytes) (hhi : BufferByte u (2 * u.k) (px (2 * u.k)) (nib (2 * u.k)))
    (hlo : BufferByte u (2 * u.k + 1) (px (2 * u.k + 1)) (nib (2 * u.k + 1))) :
    TurnsAppend 7 (pairEvents u.latched.base px nib u.k) (displaySend u)
      (displaySend ((frameSent (pairWord nib u.k) (pairRead px u.k u)).setK (u.k + 1))) := by
  have hframe := startFrame_turns (s := pairRead px u.k u) (.display .pixel) (pairWord nib u.k) hu
  rw [afterFrame_display_pixel] at hframe
  rw [displaySend_of_lt hk]
  exact (pair_read_turns hu hhi hlo).trans hframe

/-- The pairs and the refresh frame of `DISPLAY`. -/
theorem display_loop_turns {s u : State} {px : Nat → Byte} {nib : Nat → Nibble} (hu : s.unrecorded)
    (hbytes : ∀ i, i < s.cfg.npix → BufferByte s i (px i) (nib i)) (hkeep : PixelKeeps s u) (hk : u.k = 0) :
    ∃ t, TurnsAppend (7 * s.cfg.nbytes + 5)
      ((List.range s.cfg.nbytes).flatMap (pairEvents s.latched.base px nib) ++ frameEvents (cmdWord s.cfg.cmdRefresh))
      (displaySend u) (afterRefreshFrame .display (frameSent (cmdWord s.cfg.cmdRefresh) t)) ∧ PixelKeeps s t := by
  obtain ⟨t, hturns, hkept, hkt⟩ := pixel_loop (send := displaySend) (len := 7)
    (body := pairEvents s.latched.base px nib)
    (fun v hv hlt => by
      have hin : 2 * v.k + 1 < s.cfg.npix := by
        rw [Cfg.nbytes] at hlt
        omega
      have hround := display_round (hv.unrecorded hu) (hv.frame.cfg ▸ hlt)
        ((hbytes (2 * v.k) (by omega)).frame hv.frame) ((hbytes _ hin).frame hv.frame)
      rw [hv.frame.latched] at hround
      exact ⟨_, hround, (((hv.emit _).emit _).frameSent _).setK _, rfl⟩)
    hkeep (by rw [hk, Nat.zero_add])
  have hrefresh := startFrame_turns (.display .refresh) (cmdWord t.cfg.cmdRefresh) (hkept.unrecorded hu)
  rw [← displaySend_of_le (by rw [hkt, hkept.frame.cfg]), hkept.frame.cfg] at hrefresh
  exact ⟨t, (hturns.trans hrefresh).cast rfl (by rw [hk, List.range_eq_range']), hkept⟩

/-- Settles O54: `VALIDATE` with the frame-write frame, the loop over the pairs, and the refresh to the end. -/
theorem displaySendsThePackedBufferAndEndsIdle : Obligations.DisplaySendsThePackedBufferAndEndsIdle := by
  intro s px nib n v rest _ hq hi hp hl hbytes hu hbusy hv htime hturns
  have hdue : DisplayDue s := ⟨hq, hi, permitted_awake_or_idle hp, hl, hu⟩
  have hpass := validate_turns hdue fun i hlt => ⟨nib i, hbytes i hlt⟩
  obtain ⟨u, hloop, hkeep⟩ := display_loop_turns hu hbytes
    (((validated_pixelKeeps px s.cfg.npix s).frameSent (cmdWord s.cfg.cmdFrameWrite)).setK 0) rfl
  have hcount : s.cfg.npix + 7 * s.cfg.nbytes + 2 * n + 12 = s.cfg.npix + 5 + (7 * s.cfg.nbytes + 5) + 2 * n + 2 := by
    omega
  rw [hcount] at hturns ⊢
  exact refresh_ends_idle rfl hu hkeep ((hpass.trans hloop).cast rfl (List.append_assoc ..).symm) hbusy hv htime hturns

/-! ### A byte that is not recognised -/

/-- The read of an unrecognised byte in turn, wherever `SEQ` stands; `K` does not count it. -/
theorem validated_read_unrecognised {s : State} {px : Nat → Byte} {i : Nat}
    (hm : Memory.read s.mem (bufferAddr s.latched.base i).toNat = some (px i)) (he : encode8 s.cfg (px i) = none)
    (q : Seq) (d : Sched) : readStep .validate (((validated px i s).setSeq q).setSched d) =
      .next ((goto (.exit .display .errColor) ((validated px (i + 1) s).setK i)).setSched d) := by
  rw [validate_unrecognised (s := ((validated px i s).setSeq q).setSched d) hm he, ← validated_succ]
  rfl

/-- Settles O58: the reads up to the bad byte, and the exit. -/
theorem unrecognisedByteEndsWithErrColor : Obligations.UnrecognisedByteEndsWithErrColor := by
  intro s px j hq hi hp hl hj hm hgood hbad hu hturns
  have hdue : DisplayDue s := ⟨hq, hi, permitted_awake_or_idle hp, hl, hu⟩
  have hbytes : ∀ i, i < j → ∃ n, BufferByte s i (px i) n := fun i hlt => by
    obtain ⟨n, hn⟩ := Option.ne_none_iff_exists'.1 (hgood i hlt)
    exact ⟨n, hm i hlt.le, hn⟩
  have hreads := validate_run hdue hj hbytes (validated_read_unrecognised (hm j le_rfl) hbad)
  have hexit := exit_turn (s := goto (.exit .display .errColor) ((validated px (j + 1) s).setK j)) hu rfl
  obtain ⟨d, hd⟩ := (hreads.trans hexit.run).run hturns
  exact ⟨_, hd, rfl, rfl, rfl, rfl, rfl, rfl, rfl, rfl, rfl, hu⟩

end Sys2Proof.Machine
end

section
/-! `SLEEP`: its dispatch, and the request as a whole (44_power_down.md R490, 60_exceptions.md R618). -/

namespace Sys2Proof.Machine

/-! ### Counters left alone -/

@[simp] theorem goto_polls (p : Point) (s : State) : (goto p s).polls = s.polls := rfl
@[simp] theorem sampleBusy_polls (s : State) : (sampleBusy s).polls = s.polls := rfl
@[simp] theorem sampleBusy_k (s : State) : (sampleBusy s).k = s.k := rfl

/-! ### Dispatch -/

theorem exec_sleep_dispatch {s : State} {r : Option Request} (hq : s.seq = .run (.dispatch r))
    (hp : permitted .sleep s.pstate = true) : exec .sleep s = .next (sleepFirst s) := by
  simp only [exec, execSleep, hq, checkState_permitted hp]

/-- Settles O14: in a permitted state dispatch is `SLEEP`'s first step, the first primitive of the deep-sleep frame. -/
theorem sleepDispatchOpensDeepSleepFrame : Obligations.SleepDispatchOpensDeepSleepFrame := by
  intro s r hq hp
  rw [exec_sleep_dispatch hq hp]
  rfl

theorem sleep_dispatch_turn {s : State} {r : Option Request} (hu : s.unrecorded) (hq : s.seq = .run (.dispatch r))
    (hi : decodeReq s.reqShadow = .sleep) (hp : permitted .sleep s.pstate = true) : BlockRun 1 s (sleepFirst s) := by
  refine .dispatch hu hq fun d => ?_
  rw [hi, exec_sleep_dispatch (s := s.setSched d) hq hp]
  rfl

/-! ### The frames before and after the wait -/

/-- `SLEEP` from dispatch to its first sample: the deep-sleep frame. -/
theorem sleep_run_to_wait {s : State} {r : Option Request} (hu : s.unrecorded) (hq : s.seq = .run (.dispatch r))
    (hi : decodeReq s.reqShadow = .sleep) (hp : permitted .sleep s.pstate = true) :
    ∃ t, TurnsAppend 5 (frameEvents (cmdWord s.cfg.cmdDeepSleep)) s t ∧ t.seq = .run (.wait .sleep .sample) ∧
      t.polls = 0 ∧ t.pins.rstN = s.pins.rstN ∧ t.k = s.k ∧ t.env.busy = s.env.busy :=
  ⟨startWait .sleep (frameSent (cmdWord s.cfg.cmdDeepSleep) s),
    dispatch_frame_turns (c := .sleep .deepSleep) (k := s.k) hu (sleep_dispatch_turn hu hq hi hp), rfl, rfl,
    frameSent_rstN (cmdWord s.cfg.cmdDeepSleep) s, frameSent_k (cmdWord s.cfg.cmdDeepSleep) s,
    frameSent_busy (cmdWord s.cfg.cmdDeepSleep) s⟩

/-- The state in which the confirmation and its check code have been sent. -/
def sleepConfirmed (s : State) : State :=
  frameSent (dataWord s.cfg.sleepCheckCode) (frameSent (cmdWord s.cfg.cmdSleepConfirm) s)

@[simp] theorem sleepConfirmed_polls (s : State) : (sleepConfirmed s).polls = s.polls := by
  rw [sleepConfirmed, frameSent_polls, frameSent_polls]

@[simp] theorem sleepConfirmed_k (s : State) : (sleepConfirmed s).k = s.k := by
  rw [sleepConfirmed, frameSent_k, frameSent_k]

/-- The check code is a data frame, so it leaves `DC` high. -/
@[simp] theorem sleepConfirmed_pins (s : State) : (sleepConfirmed s).pins = ⟨1, 1, s.pins.rstN⟩ := by
  rw [sleepConfirmed, frameSent_pins, frameSent_rstN, dataWord, frameWord_dc]

/-- The confirmation and the check code, with no wait after them: the panel is Asleep and the exit comes next. -/
theorem confirm_run_to_exit {s : State} (hu : s.unrecorded) :
    ∃ t, TurnsAppend 10 (frameEvents (cmdWord s.cfg.cmdSleepConfirm) ++ frameEvents (dataWord s.cfg.sleepCheckCode))
      (afterSleepWait s) t ∧ t.seq = .run (.exit .sleep .ok) ∧ t.pstate = .asleep ∧ t.polls = s.polls ∧
      t.pins = ⟨1, 1, s.pins.rstN⟩ ∧ t.k = s.k := by
  have hconfirm := startFrame_turns (.sleep .confirm) (cmdWord s.cfg.cmdSleepConfirm) hu
  have hcheck := startFrame_turns (.sleep .checkCode) (dataWord s.cfg.sleepCheckCode)
    (frameSent_unrecorded (cmdWord s.cfg.cmdSleepConfirm) hu)
  exact ⟨goto (.exit .sleep .ok) ((sleepConfirmed s).setPState .asleep), hconfirm.trans hcheck, rfl, rfl,
    by simp, by simp, by simp⟩

/-! ### The whole request -/

/-- Settles O55: the deep-sleep frame, the wait, the confirmation with its check code, and the exit, one after the
other. -/
theorem sleepSendsTheCheckCodeAndEndsAsleep : Obligations.SleepSendsTheCheckCodeAndEndsAsleep := by
  intro s n v rest hq hi hp hu hbusy hv htime hturns
  obtain ⟨u, hdeep, huseq, hupolls, hurstN, huk, hubusy⟩ := sleep_run_to_wait hu hq hi (permitted_awake_or_idle hp)
  have ha : u.cfg.busyActiveLevel.get (siteOf .sleep) = s.cfg.busyActiveLevel.sleep := by rw [hdeep.frame.cfg]; rfl
  have hbound : timedOut u.cfg (u.polls + n) = false := by rw [hdeep.frame.cfg, hupolls, Nat.zero_add, htime]
  obtain ⟨w, hwait, hwaited⟩ := wait_run (hdeep.unrecorded hu) huseq ha (hubusy.trans hbusy) hv hbound
  have hwoken := hdeep.trans hwait
  obtain ⟨t, hconfirm, htseq, htpstate, htpolls, htpins, htk⟩ :=
    confirm_run_to_exit (s := sampleBusy w) (hwoken.unrecorded hu)
  have hcfg : (sampleBusy w).cfg = s.cfg := hwoken.frame.cfg
  rw [hcfg] at hconfirm
  have hasleep := hwoken.trans hconfirm
  have hall := hasleep.trans (exit_turn (hasleep.unrecorded hu) htseq)
  have hrun : BlockRun (2 * n + 17) s (raise .ok t) := hall.run.cast (by omega)
  obtain ⟨d, hd⟩ := hrun.run hturns
  obtain ⟨new, htrace, hshape⟩ := hall.trace
  have hpolls : t.polls = n := by rw [htpolls, sampleBusy_polls, hwaited.polls, hupolls, Nat.zero_add]
  have hpins : t.pins = ⟨1, 1, s.pins.rstN⟩ := by rw [htpins, sampleBusy_pins, hwaited.pins, hurstN]
  have hk : t.k = s.k := by rw [htk, sampleBusy_k, hwaited.k, huk]
  refine ⟨_, new, hd, htrace, ?_, rfl, rfl, htpstate, hpolls, hpins, hall.frame.bufBase, hall.frame.bufLen,
    hall.frame.overrun, hall.frame.mem, hall.unrecorded hu, hk⟩
  rw [hshape]
  simp only [List.append_assoc]

end Sys2Proof.Machine
end

section
/-! Requests that end before any frame: no bus event stands after their `Accept` (45_request_port.md R512,
60_exceptions.md R609). -/

namespace Sys2Proof.Machine

/-! ### Positions that are not before the frames -/

theorem initSend_not_beforeFrames (j : Nat) (s : State) : beforeFrames (initSend j s).seq = false := by
  obtain ⟨w, -, h⟩ | ⟨-, h⟩ := initSend_cases j s <;> rw [h] <;> rfl

theorem fillSend_not_beforeFrames (s : State) : beforeFrames (fillSend s).seq = false := by
  obtain ⟨-, h⟩ | ⟨-, h⟩ := fillSend_cases s <;> rw [h] <;> rfl

theorem displaySend_not_beforeFrames (s : State) : beforeFrames (displaySend s).seq = false := by
  obtain ⟨-, h⟩ | ⟨-, h⟩ := displaySend_cases s <;> rw [h] <;> rfl

theorem afterFrame_not_beforeFrames (c : FrameCall) (s : State) : beforeFrames (afterFrame c s).seq = false := by
  cases c with
  | init j => exact initSend_not_beforeFrames _ s
  | fill c =>
    cases c with
    | frameWrite | pixel => exact fillSend_not_beforeFrames _
    | refresh => rfl
  | display c =>
    cases c with
    | frameWrite | pixel => exact displaySend_not_beforeFrames _
    | refresh => rfl
  | sleep c => cases c <;> rfl

theorem hardResetStep_not_beforeFrames (p : ResetPoint) (s : State) : beforeFrames (hardResetStep p s).seq = false := by
  cases p with
  | holdLow | driveHigh => rfl
  | holdHigh => exact initSend_not_beforeFrames 0 _

theorem afterWait_not_beforeFrames (r : Request) (s : State) : beforeFrames (afterWait r s).seq = false := by
  cases r <;> rfl

theorem exit_errTimeout_not_beforeFrames (r : Request) : beforeFrames (.run (.exit r .errTimeout)) = false := by
  cases r <;> rfl

/-! ### What the block appends before the frames and at an end -/

/-- The block reaches a position before the frames only from such a position, by a read of `VALIDATE`. -/
theorem BlockMove.beforeFrames_of_next {s t : State} (h : BlockMove s t) (ht : beforeFrames t.seq = true) :
    beforeFrames s.seq = true ∧ ∃ a b, t.trace = s.trace ++ [.memRd a b] := by
  cases h with
  | rest hq => rw [hq] at ht; cases ht
  | display r b n hq | validate b n hq =>
    exact ⟨by rw [hq]; rfl, _, b, validateNext_trace _⟩
  | displayColor r b hq | validateColor b hq => exact ⟨by rw [hq]; rfl, _, b, rfl⟩
  | changed b0 b1 hq =>
    rw [State.setFault_seq, State.emit_seq, hq] at ht
    cases ht
  | close c w => rw [afterFrame_not_beforeFrames] at ht; cases ht
  | hardReset p => rw [hardResetStep_not_beforeFrames] at ht; cases ht
  | notBusy r => rw [afterWait_not_beforeFrames] at ht; cases ht
  | timeout r => rw [goto_seq, exit_errTimeout_not_beforeFrames] at ht; cases ht
  | exit r code => rw [exitStep_eq] at ht; cases ht
  | illegal | forbidden | init | fill | fillColor | displayLength | displayEmpty | sleep | frame | busy | hold | first
    | second => cases ht

/-- The block emits `Done` only at dispatch or at an exit with the same code. -/
theorem BlockMove.ends_at {s t : State} {code : Result} (h : BlockMove s t) (ht : t.trace = s.trace ++ [.done code]) :
    (∃ r, s.seq = .run (.dispatch r)) ∨ ∃ r, s.seq = .run (.exit r code) := by
  have hother : ∀ {e : Event}, t.trace = s.trace ++ [e] → e ≠ .done code → False := fun he hne =>
    hne (by simpa using he.symm.trans ht)
  cases h with
  | illegal r hq | forbidden r q hq | init r hq | fill r n hq | fillColor r n hq | displayLength r hq
    | displayEmpty r hq | display r b n hq | displayColor r b hq | sleep r hq => exact .inl ⟨r, hq⟩
  | exit r c hq =>
    rw [exitStep_eq] at ht
    obtain rfl : c = code := by simpa using ht
    exact .inr ⟨r, hq⟩
  | rest => simp at ht
  | frame c w ph => cases ph <;> exact (hother rfl (by simp)).elim
  | close c => exact (hother (afterFrame_trace c _) (by simp)).elim
  | hardReset p =>
    cases p with
    | holdLow | driveHigh => exact (hother rfl (by simp)).elim
    | holdHigh => exact (hother (initSend_trace 0 _) (by simp)).elim
  | notBusy r => cases r <;> exact (hother rfl (by simp)).elim
  | validate => exact (hother (validateNext_trace _) (by simp)).elim
  | timeout | busy | hold | validateColor | first | second | changed => exact (hother rfl (by simp)).elim

/-! ### The invariant -/

theorem quietSince_append (tr : List Event) (e : Event) : quietSince (tr ++ [e]) = quietNext (quietSince tr) e := by
  simp [quietSince]

/-- A read is no event of the bus. -/
theorem BlockMove.quietInv {s t : State} (h : BlockMove s t) (hs : QuietInv s) : QuietInv t := fun ht => by
  obtain ⟨hbefore, a, b, htrace⟩ := h.beforeFrames_of_next ht
  rw [htrace, quietSince_append, hs hbefore]
  rfl

/-- The host leaves the position and the trace, or begins a request with `Accept`. -/
theorem HostMove.quietInv {s t : State} (h : HostMove s t) (hs : QuietInv s) : QuietInv t := by
  obtain ⟨w, -, rfl⟩ | hf := h.accepts_or_leaves
  · exact fun _ => quietSince_append s.trace (.accept w)
  · rwa [QuietInv, hf.seq, hf.trace]

/-- The host ends no request. -/
theorem HostMove.not_done {s t : State} (h : HostMove s t) (code : Result) : t.trace ≠ s.trace ++ [.done code] := by
  obtain ⟨w, -, rfl⟩ | hf := h.accepts_or_leaves
  · simp [popScript, Machine.accept]
  · simp [hf.trace]

/-- Of the exits with a sequencing, validation or encoding error, the panel state leaves only that of a rejected
buffer, before any frame. -/
theorem beforeFrames_of_rejecting_exit {r : Request} {code : Result} {p : PanelState}
    (hp : panelAt (.run (.exit r code)) p = true)
    (hc : code = .errIllegal ∨ code = .errSequence ∨ code = .errLength ∨ code = .errColor) :
    beforeFrames (.run (.exit r code)) = true := by
  obtain rfl | rfl | rfl | rfl := hc
  case inr.inr.inr =>
    cases r with
    | display => rfl
    | init | fill | sleep => cases hp
  all_goals cases r <;> cases hp

/-- Settles O40: a request is rejected at dispatch or at the exit of a rejected buffer, both before any frame. -/
theorem rejectedRequestEmitsNoBusEvent : Obligations.RejectedRequestEmitsNoBusEvent := by
  intro s t hquiet hpanel ht
  obtain ⟨-, hm⟩ | ⟨-, hm⟩ := step_move ht
  · exact ⟨hm.quietInv hquiet, fun code _ htrace => absurd htrace (hm.not_done code)⟩
  · refine ⟨hm.quietInv hquiet, fun code hc htrace => hquiet ?_⟩
    obtain ⟨r, hq⟩ | ⟨r, hq⟩ := hm.ends_at htrace
    · rw [takeTurn_seq] at hq
      rw [hq]
      rfl
    · rw [takeTurn_seq] at hq
      rw [PanelInv, hq] at hpanel
      rw [hq]
      exact beforeFrames_of_rejecting_exit hpanel hc

end Sys2Proof.Machine
end

section
/-! How a request ends at dispatch and at its exit, and which instruction a turn of the block runs (45_request_port.md
R502 to R506, 60_exceptions.md R610, 10_state.md R120, R121). -/

namespace Sys2Proof.Machine

/-! ### The ends of a request -/

/-- A raise writes `RESULT`, makes the block Ready and emits `Done`, and nothing else (R610). -/
theorem raise_eq (e : Result) (s : State) :
    raise e s = { s with seq := .ready, result := e, trace := s.trace ++ [.done e] } := rfl

/-- Settles O15: each of the five illegal rows runs the raise of `ERR_ILLEGAL`, wherever `SEQ` stands. -/
theorem illegalWordsEndWithErrIllegal : Obligations.IllegalWordsEndWithErrIllegal := by
  intro s i hi
  rw [← raise_eq]
  obtain ⟨rest, rfl⟩ | ⟨rest, rfl⟩ | ⟨rest, rfl⟩ | ⟨rest, rfl⟩ | ⟨op, rsv0, color, rsv1, rfl⟩ := hi <;> rfl

/-- In a forbidden state the state check ends the request (R503). -/
theorem checkState_forbidden {r : Request} {body : State → Host.Outcome State Fault Refusal} {s : State}
    (hp : permitted r s.pstate = false) : checkState r body s = .next (raise .errSequence s) :=
  if_neg (by simp [hp])

/-- Dispatch of a request in a forbidden state ends it. -/
theorem exec_forbidden {s : State} {i : Instr} {r : Option Request} {q : Request} (hq : s.seq = .run (.dispatch r))
    (hi : requestOf i = some q) (hp : permitted q s.pstate = false) : exec i s = .next (raise .errSequence s) := by
  cases i <;> cases hi <;>
    simp only [exec, execInit, execFill, execDisplay, execSleep, hq, checkState_forbidden hp]

theorem permitted_init_iff (p : PanelState) : permitted .init p = true ↔ p ≠ .refreshing :=
  ⟨fun h hp => Bool.noConfusion (hp ▸ h), permitted_init⟩

/-- A request other than `INIT` is permitted in Awake and Idle only (R503). -/
theorem permitted_iff_awake_or_idle {r : Request} (hr : r ≠ .init) (p : PanelState) :
    permitted r p = true ↔ p = .awake ∨ p = .idle :=
  ⟨fun h => (awakeOrIdle_iff p).1 (awakeOrIdle_of_permitted hr h), permitted_awake_or_idle⟩

/-- Settles O16: the two rows of the table, and the raise where the table forbids the request. -/
theorem forbiddenStateEndsWithErrSequence : Obligations.ForbiddenStateEndsWithErrSequence :=
  ⟨permitted_init_iff, fun _ p hr => permitted_iff_awake_or_idle hr p, fun _ _ _ _ hq hi hp => exec_forbidden hq hi hp⟩

/-- Settles O24: at its exit each request runs the raise of its code; `Finish(OK)` writes the same. -/
theorem exitWritesResultAndReady : Obligations.ExitWritesResultAndReady := fun _ _ _ _ hi hq => exec_exit hi hq

/-! ### The instruction a turn runs -/

/-- With no fault recorded, the block's step runs the instruction it fetches. -/
theorem blockStep_of_fetch {s : State} {i : Instr} (hf : s.fault = none) (hi : fetch s = some i) :
    blockStep s = exec i s := by
  rw [blockStep, hf, hi]

/-- While Ready the block rests. -/
theorem blockStep_ready {s : State} (hf : s.fault = none) (hq : s.seq = .ready) : blockStep s = .next s := by
  rw [blockStep, hf, fetch, hq]

/-- In the block's turn the step runs the instruction fetched, in the state with the turn taken. -/
theorem step_of_fetch {s : State} {i : Instr} (ht : s.turn = .block) (hu : s.unrecorded) (hi : fetch s = some i) :
    step s = exec i s.takeTurn :=
  (step_block hu.2 ht).trans (blockStep_of_fetch (s := s.takeTurn) hu.1 hi)

/-- Settles O33: at each position the instruction fetched is the one named, and while Ready there is none. -/
theorem stepRunsTheDecodedInstr : Obligations.StepRunsTheDecodedInstr := by
  intro s ht hu
  refine ⟨fun r hq => ?_, fun c w ph hq => ?_, fun p hq => ?_, fun p hq => ?_, fun r p hq => ?_, fun r code hq => ?_,
    fun hq => (step_block hu.2 ht).trans (blockStep_ready (s := s.takeTurn) hu.1 hq)⟩ <;>
  exact step_of_fetch ht hu (by rw [fetch, hq])

end Sys2Proof.Machine
end

section
/-! The register window: what a write of each register does and what a read returns (20_memory.md R201,
45_request_port.md R500, R501, R508 to R510). -/

namespace Sys2Proof.Machine

/-! ### An access to the window -/

/-- The first action of the script is done. -/
theorem popScript_eq {s : State} {act : HostAct} {rest : List HostAct} (hs : s.host.script = act :: rest) :
    popScript s = { s with host := ⟨rest, s.host.reads⟩ } := by
  simp [popScript, State.setHost, hs]

/-- A write of an aligned word in the window is a write of the register at its offset. -/
theorem hostStep_write {s : State} {a w : Word} {off : Nat} {rest : List HostAct}
    (hs : s.host.script = .write 4 a w :: rest) (ha : windowOffset s.cfg a = some off) (hk : off % 4 = 0) :
    hostStep s = .next (popScript (writeRegister off w s)) := by
  simp [hostStep, hs, hostWrite, ha, accessOk, hk]

/-- A read of an aligned word in the window gives the host the word of the register at its offset. -/
theorem hostStep_read {s : State} {a : Word} {off : Nat} {rest : List HostAct}
    (hs : s.host.script = .read 4 a :: rest) (ha : windowOffset s.cfg a = some off) (hk : off % 4 = 0) :
    hostStep s = .next { afterRead off s with host := ⟨rest, s.host.reads ++ [readRegister off s]⟩ } := by
  obtain ⟨e, he⟩ := afterRead_leaves off s
  simp [hostStep, hs, hostRead, ha, accessOk, hk, he, popScript, logRead, State.setHost]

/-- An access outside the window only takes its action off the script (R201, log 10). -/
theorem hostStep_outside {s : State} {a w : Word} {width : Nat} {rest : List HostAct}
    (hs : s.host.script = .write width a w :: rest ∨ s.host.script = .read width a :: rest)
    (ha : windowOffset s.cfg a = none) : hostStep s = .next { s with host := ⟨rest, s.host.reads⟩ } := by
  obtain hs | hs := hs <;> rw [← popScript_eq hs]
  · simp [hostStep, hs, hostWrite, ha]
  · simp [hostStep, hs, hostRead, ha]

/-! ### Writes -/

/-- A write to `REQ` while Ready is acceptance (R500). -/
theorem writeRegister_req_of_ready {s : State} (w : Word) (hq : s.seq = .ready) :
    writeRegister 0x00 w s = accept w s := if_pos ((ready_iff s).2 hq)

/-- A write to `REQ` while a request runs sets `OVERRUN` (R501). -/
theorem writeRegister_req_of_running {s : State} (w : Word) (hq : s.seq ≠ .ready) :
    writeRegister 0x00 w s = s.setOverrun true := if_neg fun hr => hq ((ready_iff s).1 hr)

/-- `STATUS`, `LINES` and the reserved offsets ignore a write (R509). -/
theorem writeRegister_ignored {off : Nat} (w : Word) (s : State) (h : 0x08 < off) : writeRegister off w s = s := by
  rw [writeRegister, if_neg (by omega), if_neg (by omega), if_neg (by omega)]

/-- Settles O25: `REQ` is at `REG_BASE`, and the write is acceptance. -/
theorem requestWriteWhileReadyIsAccepted : Obligations.RequestWriteWhileReadyIsAccepted := by
  intro s w rest hs hq
  rw [hostStep_write hs (windowOffset_regBase s.cfg) rfl, writeRegister_req_of_ready w hq,
    popScript_eq (s := accept w s) hs]
  rfl

/-- Settles O26: `REQ` is at `REG_BASE`, and the write is dropped. -/
theorem requestWriteWhileRunningIsDropped : Obligations.RequestWriteWhileRunningIsDropped := by
  intro s w rest hs hq
  rw [hostStep_write hs (windowOffset_regBase s.cfg) rfl, writeRegister_req_of_running w hq,
    popScript_eq (s := s.setOverrun true) hs]
  rfl

/-- Settles O27: the two registers that store the word, and the five offsets after them that ignore it. -/
theorem otherRegisterWritesStoreOrAreIgnored : Obligations.OtherRegisterWritesStoreOrAreIgnored := by
  intro s a w rest hs
  refine ⟨fun ha => ?_, fun ha => ?_, fun off hoff ha => ?_⟩
  · rw [hostStep_write hs (windowOffset_of_add ha (by decide)) rfl]
    exact congrArg _ (popScript_eq (s := s.setBufBase w) hs)
  · rw [hostStep_write hs (windowOffset_of_add ha (by decide)) rfl]
    exact congrArg _ (popScript_eq (s := s.setBufLen w) hs)
  · rw [hostStep_write hs (windowOffset_of_add ha (by omega)) (by omega), writeRegister_ignored w s (by omega),
      popScript_eq hs]

/-! ### Reads -/

/-- `REQ` and the reserved offsets read as 0 (R510). -/
theorem readRegister_zero {off : Nat} (s : State) (h : off = 0x00 ∨ 0x10 < off) : readRegister off s = 0x00000000 := by
  rw [readRegister, if_neg (by omega), if_neg (by omega), if_neg (by omega), if_neg (by omega)]

/-- Only a read of `LINES` draws anything. -/
theorem afterRead_of_ne {off : Nat} (s : State) (h : off ≠ 0x10) : afterRead off s = s := if_neg h

/-- A read of a register other than `LINES` only gives the host its word. -/
theorem hostStep_read_of_ne {s : State} {a : Word} {off : Nat} {rest : List HostAct}
    (hs : s.host.script = .read 4 a :: rest) (ha : a.toNat = s.cfg.regBase.toNat + off)
    (hoff : off ≤ 0x1F ∧ off % 4 = 0 ∧ off ≠ 0x10) :
    hostStep s = .next { s with host := ⟨rest, s.host.reads ++ [readRegister off s]⟩ } := by
  obtain ⟨hin, hk, hne⟩ := hoff
  rw [hostStep_read hs (windowOffset_of_add ha hin) hk, afterRead_of_ne s hne]

/-- Settles O28: each offset of the window, and an address outside it. -/
theorem registerReadsReturnTheirWord : Obligations.RegisterReadsReturnTheirWord := by
  refine ⟨fun s a rest hs => ⟨fun ha => ?_, fun ha => ?_, fun ha => ?_, fun ha => ?_, fun ha => ?_,
    fun off hoff ha => ?_⟩, fun s a w width rest hs ha => hostStep_outside hs (windowOffset_outside ha)⟩
  · exact hostStep_read_of_ne hs ha (by decide)
  · exact hostStep_read_of_ne hs ha (by decide)
  · exact hostStep_read_of_ne hs ha (by decide)
  · exact hostStep_read_of_ne hs ha (by decide)
  · exact hostStep_read hs (windowOffset_of_add ha (by decide)) rfl
  · rw [hostStep_read_of_ne hs ha (by omega), readRegister_zero s (by omega)]

end Sys2Proof.Machine
end

section
/-! The word placed for fetching: what a word of the opcode table decodes to, and the step that runs it (30_encoding.md
R306, 45_request_port.md R502, log 15, log 16). -/

namespace Sys2Proof

/-- Bits `k` and up of a number's word are the word of its quotient by `2 ^ k`. -/
theorem extractLsb'_ofNat {n k l : Nat} (v : Nat) (h : k + l ≤ n) :
    (BitVec.ofNat n v).extractLsb' k l = .ofNat l (v / 2 ^ k) := by
  apply BitVec.eq_of_getLsbD_eq
  intro i hi
  have hn : k + i < n := by omega
  rw [BitVec.getLsbD_extractLsb', BitVec.getLsbD_ofNat, BitVec.getLsbD_ofNat, Nat.testBit_div_two_pow, Nat.add_comm i]
  simp [hi, hn]

/-- A word is its four bytes put together (20_memory.md R204). -/
theorem bytesWord_eta (w : Word) :
    bytesWord (w.extractLsb' 0 8) (w.extractLsb' 8 8) (w.extractLsb' 16 8) (w.extractLsb' 24 8) = w := by
  apply BitVec.eq_of_getLsbD_eq
  intro i hi
  interval_cases i <;> simp [bytesWord]

theorem bytesWord_ofNat (v : Nat) :
    bytesWord (.ofNat 8 v) (.ofNat 8 (v / 256)) (.ofNat 8 (v / 256 / 256)) (.ofNat 8 (v / 256 / 256 / 256)) =
      .ofNat 32 v := by
  rw [← bytesWord_eta (.ofNat 32 v)]
  simp [extractLsb'_ofNat, Nat.div_div_eq_div_mul]

/-- Bit 8 of a frame is the lowest bit of its second byte (log 15). -/
theorem frameWord_ofNat (v : Nat) :
    frameWord ((BitVec.ofNat 8 (v / 256)).extractLsb' 0 1) (.ofNat 8 v) = .ofNat 9 v := by
  rw [← frameWord_eta (.ofNat 9 v)]
  simp [extractLsb'_ofNat]

/-- A table word of the format `REQ` decodes as the request word of its bits. -/
theorem decodeReq_of_table {nbits w : Nat} {i : Instr} (hf : tableFormat nbits = .req)
    (h : decodeTableWord nbits w = some i) : decodeReq (.ofNat 32 (w % 2 ^ nbits)) = i := by
  simp only [decodeTableWord, hf, Format.bytes, layOut, decodeBytes, bytesWord_ofNat, Option.some.injEq] at h
  exact h

/-- A table word of the format `FRAME` that decodes at all decodes as the frame word of its bits. -/
theorem decodeFrame_of_table {nbits w : Nat} {i : Instr} (hf : tableFormat nbits = .frame)
    (h : decodeTableWord nbits w = some i) : decodeFrame (.ofNat 9 (w % 2 ^ nbits)) = i := by
  simp only [decodeTableWord, hf, Format.bytes, layOut, decodeBytes, frameWord_ofNat] at h
  by_cases hhigh : (BitVec.ofNat 8 (w % 2 ^ nbits / 256)).extractLsb' 1 7 = 0
  · rw [if_pos hhigh] at h
    exact Option.some.inj h
  · rw [if_neg hhigh] at h
    cases h

end Sys2Proof

namespace Sys2Proof.Machine

theorem withFetchWord_req {s : State} {nbits w : Nat} (hf : tableFormat nbits = .req) :
    s.withFetchWord nbits w = placeRequest (.ofNat 32 (w % 2 ^ nbits)) s := by
  rw [State.withFetchWord, hf]

theorem withFetchWord_frame {s : State} {nbits w : Nat} (hf : tableFormat nbits = .frame) :
    s.withFetchWord nbits w = placeFrame (.ofNat 9 (w % 2 ^ nbits)) s := by
  rw [State.withFetchWord, hf]

/-- What the placing leaves: the block's turn comes next, and neither a record nor what is listed changes. -/
structure PlacedFrame (s t : State) : Prop where
  turn : t.turn = .block
  fault : t.fault = s.fault
  refusal : t.refusal = s.refusal
  pstate : t.pstate = s.pstate
  trace : t.trace = s.trace
  cfg : t.cfg = s.cfg
  mem : t.mem = s.mem
  bufBase : t.bufBase = s.bufBase
  bufLen : t.bufLen = s.bufLen
  pins : t.pins = s.pins

theorem withFetchWord_placedFrame (s : State) (nbits w : Nat) : PlacedFrame s (s.withFetchWord nbits w) := by
  cases hf : tableFormat nbits with
  | req => rw [withFetchWord_req hf]; constructor <;> rfl
  | frame => rw [withFetchWord_frame hf]; constructor <;> rfl

/-- The instruction fetched next is the one the placed word decodes to. -/
theorem fetch_withFetchWord (s : State) {nbits w : Nat} {i : Instr} (h : decodeTableWord nbits w = some i) :
    fetch (s.withFetchWord nbits w) = some i := by
  cases hf : tableFormat nbits with
  | req => rw [withFetchWord_req hf, ← decodeReq_of_table hf h]; rfl
  | frame => rw [withFetchWord_frame hf, ← decodeFrame_of_table hf h]; rfl

/-- Settles O34: the placed word is fetched in the block's turn, and a record stays and is answered. -/
theorem fetchWordIsRunByTheNextStep : Obligations.FetchWordIsRunByTheNextStep := by
  intro s nbits w i hi _
  obtain ⟨hturn, hfault, hrefusal, hpstate, htrace, hcfg, hmem, hbase, hlen, hpins⟩ :=
    withFetchWord_placedFrame s nbits w
  refine ⟨fun f hr hf => ?_, fun r hr => step_refused (hrefusal.trans hr), fun hu => ?_⟩
  · rw [step_block (hrefusal.trans hr) hturn]
    exact blockStep_faulted (u := (s.withFetchWord nbits w).takeTurn) (hfault.trans hf)
  · have hunrecorded : (s.withFetchWord nbits w).unrecorded := ⟨hfault.trans hu.1, hrefusal.trans hu.2⟩
    exact ⟨_, step_of_fetch hturn hunrecorded (fetch_withFetchWord s hi), hunrecorded, hpstate, htrace, hcfg, hmem,
      hbase, hlen, hpins⟩

end Sys2Proof.Machine
end

section
/-! Dispatch of `DISPLAY` with a wrong length (43_pixel_transmission.md R464, 60_exceptions.md R602). -/

namespace Sys2Proof.Machine

/-- In a permitted state, dispatch of `DISPLAY` is the request's own first step. -/
theorem exec_display_first {s : State} {r : Option Request} (hq : s.seq = .run (.dispatch r))
    (hp : permitted .display s.pstate = true) : exec .display s = displayFirst s := by
  simp only [exec, execDisplay, hq, checkState_permitted hp]

/-- The length check stands before the first read of `VALIDATE`. -/
theorem displayFirst_wrong_length {s : State} (hl : s.latched.len.toNat ≠ s.cfg.npix) :
    displayFirst s = .next (raise .errLength s) := if_pos hl

/-- Settles O17: dispatch is the length check, which raises `ERR_LENGTH`, and the raise writes only `RESULT`, `SEQ` and
the trace. -/
theorem wrongLengthEndsWithErrLength : Obligations.WrongLengthEndsWithErrLength := by
  intro s r hq hp hl
  rw [exec_display_first hq hp, displayFirst_wrong_length hl, raise_eq]

end Sys2Proof.Machine
end

section
/-! The construction reset: the value of every element, and the base case of the invariants (70_reset_and_hazards.md
R700, 00_scope.md R10). -/

namespace Sys2Proof

theorem npix_cfg : Config.cfg.npix = 268800 := rfl

/-- A timeout stored less one is never `Some(0)` (00_scope.md R10(f)). -/
theorem map_succ_ne_some_zero (o : Option Nat) : o.map (· + 1) ≠ some 0 := by
  cases o <;> simp

/-- The configuration of reset meets R10: of the OPEN fields it uses only what the type of `CODE8` says and how
`BUSY_TIMEOUT` is stored. -/
theorem valid_cfg : Config.cfg.Valid := by
  obtain ⟨hblack, hwhite, hnodup⟩ := (@Config.code8 ⟨Config.code8Witness⟩).property
  exact
    { npix_even := by rw [npix_cfg]
      nibble_injective := by decide
      code8_injective := hnodup
      code8_white := hwhite
      code8_black := hblack
      nibble_white := rfl
      timeout_positive := map_succ_ne_some_zero Config.busyTimeoutLessOne
      npix_fits := by rw [npix_cfg]; decide }

end Sys2Proof

namespace Sys2Proof.Machine

/-! ### The words a host reads at reset -/

/-- Bits 2:0 of `LINES` are the levels the block drives, put together from their fields (10_state.md R111). -/
theorem linesWord_driven (p : Pins) (busy : Level) :
    (linesWord p busy).extractLsb' 0 3 = p.rstN ++ (p.dc ++ p.csN) := by
  obtain ⟨hcsN, hdc, hrstN, -, -⟩ := linesWord_fields p busy
  rw [← hcsN, ← hdc, ← hrstN, BitVec.extractLsb'_append_extractLsb'_eq_extractLsb' (Nat.zero_add 1).symm,
    BitVec.extractLsb'_append_extractLsb'_eq_extractLsb' (Nat.zero_add 2).symm]

theorem linesWord_reset (busy : Level) :
    (linesWord State.reset.pins busy).extractLsb' 0 3 = 0b101 ∧
      (linesWord State.reset.pins busy).extractLsb' 3 1 = busy := by
  obtain ⟨-, -, -, hbusy, -⟩ := linesWord_fields State.reset.pins busy
  exact ⟨linesWord_driven State.reset.pins busy, hbusy⟩

/-- Settles O32: each row is the value the construction gives, and `LINES` is read field by field. -/
theorem resetGivesTheTabledValues : Obligations.ResetGivesTheTabledValues :=
  ⟨rfl, rfl, rfl, rfl, rfl, rfl, rfl, rfl, rfl, rfl, rfl, rfl, by decide, linesWord_reset⟩

/-! ### The base case of each invariant -/

/-- Nothing has been emitted: the bus is closed and `RST_N` is high. -/
theorem busInv_reset : BusInv State.reset :=
  (busInv_iff_of_closed (s := State.reset) rfl).2 ⟨rfl, rfl, rfl⟩

theorem panelInv_reset : PanelInv State.reset := rfl

/-- The latched operands and the accepted word are all zero, and no request runs. -/
theorem requestInv_reset : RequestInv State.reset where
  op := by decide
  color := by decide
  request _ hq := by cases hq
  point _ hq := by cases hq
  k := Nat.zero_le _

/-- No frame has been sent, and `DC` is low as a reader of the trace takes it to begin. -/
theorem sentInv_reset : SentInv State.reset := HasSent.ready (fs := []) rfl rfl

theorem quietInv_reset : QuietInv State.reset := fun _ => rfl

/-- Settles O35: the base case of each invariant, and the configuration's constraints. -/
theorem invariantsHoldAtReset : Obligations.InvariantsHoldAtReset :=
  ⟨busInv_reset, panelInv_reset, requestInv_reset, sentInv_reset, quietInv_reset, Memory.wf_reset, valid_cfg,
    ⟨rfl, rfl⟩, rfl⟩

end Sys2Proof.Machine
end
